-- ==== Sys2Proof/Word.lean ====
section
/-! DEFINITION. The word types of the block and the data types its registers hold (00_scope R10, 30_encoding R125,
R127, R131, R132). Their numeric codes are in Decode.lean; the arithmetic of `F32` is in Machine/Float.lean. -/

namespace Sys2Proof

abbrev Byte := BitVec 8
abbrev U16 := BitVec 16
abbrev U32 := BitVec 32

/-- A time: a `u64` count of samples, arithmetic modulo 2^64, 0 meaning "cleared / none" (00_scope R10, R14). -/
abbrev Time := BitVec 64

/-- A value of the format NUM, IEEE 754 binary32 (00_scope R10), sorted by what the rules ask of it. `mag` is bits 30..0 of
the pattern of a finite number; `payload + 1` is bits 22..0 of a NaN's. One value per pattern: see `F32.ofBits`. -/
inductive F32 where
  | finite (neg : Bool) (mag : Fin 0x7F800000)
  | inf (neg : Bool)
  | nan (neg : Bool) (payload : Fin 0x7FFFFF)
  deriving DecidableEq, Repr

/-- The four operations of NUM (00_scope R13): the index of the free value a NaN result takes. -/
inductive FloatOp where
  | add | sub | mul | div
  deriving DecidableEq, Repr

/-- The rates that have a table entry: r = 0, 1, 2 (10_state R38). Index 3 (848k) has none (30_encoding R133). -/
inductive Rate where
  | k106 | k212 | k424
  deriving DecidableEq, Repr

/-- One entry per rate (10_state R38, R40 to R44). -/
structure PerRate (α : Type) where
  k106 : α
  k212 : α
  k424 : α
  deriving DecidableEq, Repr

/-- `searchStage` (10_state R41): BEGIN, IDLE, END and the reserved code 3. -/
inductive SearchStage where
  | beginStage | idleStage | endStage | reservedStage
  deriving DecidableEq, Repr

/-- `SymbolStatus.pattern` (10_state R45, 30_encoding R132). -/
inductive Pattern where
  | invalid | noPattern | patternL | patternH
  deriving DecidableEq, Repr

/-- `frameType` and the record's `type` (10_state R47, 30_encoding R127). -/
inductive FrameType where
  | noFrame | pollFrame | listenFrame
  deriving DecidableEq, Repr

/-- The record's `tech` (30_encoding R127). -/
inductive Tech where
  | noTech | nfcA | nfcB | nfcF | nfcV
  deriving DecidableEq, Repr

/-- The record's `phase` (30_encoding R127). -/
inductive Phase where
  | carrierFrame | selectionFrame | applicationFrame
  deriving DecidableEq, Repr

/-- The frame record of the frame sink (30_encoding R125). Its field `length` is the number of payload bytes and is
computed (`FrameRecord.length`); `timeStart` and `timeEnd` are binary64 patterns. -/
structure FrameRecord where
  tech : Tech
  frameType : FrameType
  phase : Phase
  flags : Byte
  rate : U32
  sampleStart : Time
  sampleEnd : Time
  timeStart : BitVec 64
  timeEnd : BitVec 64
  payload : List Byte
  deriving DecidableEq, Repr

end Sys2Proof
end

