-- ==== Sys2Proof/Syntax.lean ====
section
/-! DEFINITION. The operations of the block: one constructor per row of spec/opcode_table.json (00_scope R16). A row of format
CMD is a host command; SEQ and SYM rows are selected by a key the block forms itself; CALL rows have no selector. -/

namespace Sys2Proof

/-- The micro-operations the sequencing key selects (30_encoding R115). -/
inductive SeqOp where
  | sofhold | sofovr | sofb | sofi | sofe | sofx | trk
  deriving DecidableEq, Repr

/-- The rows the framer key selects (30_encoding R116). -/
inductive SymOp where
  | feof | fserrStart | fserrStop | ftruncStart | ftruncData | ftruncStop | fstart | fdata | fpush
  deriving DecidableEq, Repr

/-- Every operation, in the order of the opcode table. Operands of `thr`, `cfg`, `smp` and `ingest` are the 32-bit patterns
of the command's `arg0` and `arg1` (30_encoding R111). -/
inductive Instr where
  | nop
  | rst
  | thr (min max : U32)
  | cfg (rate : U32)
  | smp (sample power : U32)
  | rsv5
  | rsv6
  | rsv7
  | sofhold
  | sofovr
  | sofb
  | sofi
  | sofe
  | sofx
  | trk
  | feof
  | fserrStart
  | fserrStop
  | ftruncStart
  | ftruncData
  | ftruncStop
  | fstart
  | fdata
  | fpush
  | ingest (sample power : U32)
  | edge (r : Rate)
  | sofabt
  | sofconf
  | fterm (trunc : Bool)
  | fin (trunc : Bool)
  | cls (frame : FrameRecord)
  | crc (frame : FrameRecord)
  | rstm
  | lstn
  deriving DecidableEq, Repr

end Sys2Proof
end

