-- ==== Sys2Proof/WellFormed.lean ====
section
/-! DEFINITION. Well-formed operations: the operands the spec gives them. Only the record operand of `CLS` and `CRC` has a
limit: its `length` is 1 to 256 (30_encoding R125). Every bit pattern is an operand of a command (30_encoding R113). -/

namespace Sys2Proof

/-- A record has a first byte (45_protocol_classifier R270 (a)). -/
def FrameRecord.hasPayload (f : FrameRecord) : Bool := !f.payload.isEmpty

/-- A record has at most the 256 bytes of the stream buffer (30_encoding R125). -/
def FrameRecord.fitsBuffer (f : FrameRecord) : Bool := decide (f.payload.length ≤ 256)

def FrameRecord.wf (f : FrameRecord) : Bool := f.hasPayload && f.fitsBuffer

def Instr.wf : Instr → Bool
  | .nop => true
  | .rst => true
  | .thr _ _ => true
  | .cfg _ => true
  | .smp _ _ => true
  | .rsv5 => true
  | .rsv6 => true
  | .rsv7 => true
  | .sofhold => true
  | .sofovr => true
  | .sofb => true
  | .sofi => true
  | .sofe => true
  | .sofx => true
  | .trk => true
  | .feof => true
  | .fserrStart => true
  | .fserrStop => true
  | .ftruncStart => true
  | .ftruncData => true
  | .ftruncStop => true
  | .fstart => true
  | .fdata => true
  | .fpush => true
  | .ingest _ _ => true
  | .edge _ => true
  | .sofabt => true
  | .sofconf => true
  | .fterm _ => true
  | .fin _ => true
  | .cls f => f.wf
  | .crc f => f.wf
  | .rstm => true
  | .lstn => true

end Sys2Proof
end

