-- ==== Sys2Proof/Decode.lean ====
section
/-! DEFINITION. The three things the block decodes (30_encoding): the 67-bit command word, the 5-bit sequencing key and the
5-bit framer key; then the encoder, and the numeric codes of the enumerations. Every word of the three formats has a
meaning, so a decoder refuses only what is no word of its format. -/

namespace Sys2Proof

/-! ## Decoding -/

/-- `op`, bits 2..0 of a command word (30_encoding R110). -/
def cmdOp (w : BitVec 67) : BitVec 3 := w.extractLsb' 0 3

/-- `arg0`, bits 34..3 of a command word (30_encoding R110). -/
def cmdArg0 (w : BitVec 67) : U32 := w.extractLsb' 3 32

/-- `arg1`, bits 66..35 of a command word (30_encoding R110). -/
def cmdArg1 (w : BitVec 67) : U32 := w.extractLsb' 35 32

/-- The command of a word (30_encoding R111). Operand bits a command does not use are ignored (R110). -/
def decodeCmd (w : BitVec 67) : Instr :=
  match (cmdOp w).toNat with
  | 0 => .nop
  | 1 => .rst
  | 2 => .thr (cmdArg0 w) (cmdArg1 w)
  | 3 => .cfg (cmdArg0 w)
  | 4 => .smp (cmdArg0 w) (cmdArg1 w)
  | 5 => .rsv5
  | 6 => .rsv6
  | _ => .rsv7

/-- The SEQ operation of a key `a g o st` (30_encoding R115), tested in the order of 47_reset_and_dispatch R292. -/
def decodeSeq (k : BitVec 5) : SeqOp :=
  if k.getLsbD 4 then .trk
  else if k.getLsbD 3 = false then .sofhold
  else if k.getLsbD 2 then .sofovr
  else match (k.extractLsb' 0 2).toNat with
    | 0 => .sofb
    | 1 => .sofi
    | 2 => .sofe
    | _ => .sofx

/-- The SYM row of a key `p z n e f` (30_encoding R116), in the priority of 44_bit_byte_framer R236: `frameEnd`, else
`streamError`, else `truncateError`, else advance. -/
def decodeSym (k : BitVec 5) : SymOp :=
  let p := k.getLsbD 4
  let z := k.getLsbD 3
  let n := k.getLsbD 2
  let e := k.getLsbD 1
  let f := k.getLsbD 0
  if !p && n && e then .feof
  else if p && z then .fserrStart
  else if !p && n && !e then .fserrStop
  else if !p && z && !n && f then .ftruncStart
  else if !z && !n && f then .ftruncData
  else if p && !z && n && f then .ftruncStop
  else if !p && z && !n && !f then .fstart
  else if !z && !n && !f then .fdata
  else .fpush

def SeqOp.toInstr : SeqOp → Instr
  | .sofhold => .sofhold
  | .sofovr => .sofovr
  | .sofb => .sofb
  | .sofi => .sofi
  | .sofe => .sofe
  | .sofx => .sofx
  | .trk => .trk

def SymOp.toInstr : SymOp → Instr
  | .feof => .feof
  | .fserrStart => .fserrStart
  | .fserrStop => .fserrStop
  | .ftruncStart => .ftruncStart
  | .ftruncData => .ftruncData
  | .ftruncStop => .ftruncStop
  | .fstart => .fstart
  | .fdata => .fdata
  | .fpush => .fpush

/-- A row of a key table: the key bits that are fixed and their values (opcode_table.json "mask" and "match"). -/
structure KeyRow (Op : Type) where
  mask : BitVec 5
  bits : BitVec 5
  op : Op
  deriving DecidableEq, Repr

def KeyRow.hits {Op : Type} (row : KeyRow Op) (k : BitVec 5) : Bool := k &&& row.mask == row.bits

/-- The seven rows of format SEQ. -/
def seqRows : List (KeyRow SeqOp) :=
  [⟨0b11000, 0b00000, .sofhold⟩, ⟨0b11100, 0b01100, .sofovr⟩, ⟨0b11111, 0b01000, .sofb⟩, ⟨0b11111, 0b01001, .sofi⟩,
   ⟨0b11111, 0b01010, .sofe⟩, ⟨0b11111, 0b01011, .sofx⟩, ⟨0b10000, 0b10000, .trk⟩]

/-- The nine rows of format SYM. -/
def symRows : List (KeyRow SymOp) :=
  [⟨0b10110, 0b00110, .feof⟩, ⟨0b11000, 0b11000, .fserrStart⟩, ⟨0b10110, 0b00100, .fserrStop⟩,
   ⟨0b11101, 0b01001, .ftruncStart⟩, ⟨0b01101, 0b00001, .ftruncData⟩, ⟨0b11101, 0b10101, .ftruncStop⟩,
   ⟨0b11101, 0b01000, .fstart⟩, ⟨0b01101, 0b00000, .fdata⟩, ⟨0b11101, 0b10100, .fpush⟩]

/-- A word of one of the three formats that have words (30_encoding, head of the file). -/
inductive Code where
  | cmd (w : BitVec 67)
  | seq (k : BitVec 5)
  | sym (k : BitVec 5)
  deriving DecidableEq, Repr

/-- The four formats of the opcode table. -/
inductive Format where
  | cmd | seq | sym | call
  deriving DecidableEq, Repr

/-- Why a number is no word of a format. -/
inductive Reject where
  /-- The number needs more bits than a word of the format has: 67 for CMD (30_encoding R110), 5 for a key (R115, R116). -/
  | tooWide
  /-- Format CALL has no words: "Called micro-operations have no selector" (30_encoding R117). -/
  | noSelector
  deriving DecidableEq, Repr

/-- The instruction of a word. -/
def decode : Code → Instr
  | .cmd w => decodeCmd w
  | .seq k => (decodeSeq k).toInstr
  | .sym k => (decodeSym k).toInstr

/-- The instruction of any number read in any format. -/
def decodeNumber (f : Format) (w : Nat) : Except Reject Instr :=
  match f with
  | .cmd => if w < 2 ^ 67 then .ok (decode (.cmd (BitVec.ofNat 67 w))) else .error .tooWide
  | .seq => if w < 2 ^ 5 then .ok (decode (.seq (BitVec.ofNat 5 w))) else .error .tooWide
  | .sym => if w < 2 ^ 5 then .ok (decode (.sym (BitVec.ofNat 5 w))) else .error .tooWide
  | .call => .error .noSelector

/-- Is the number exactly the "match" value of a SEQ row, its don't-care bits 0? -/
def isSeqMatch (w : Nat) : Bool := seqRows.any fun row => row.bits.toNat == w

/-- Which word an opcode-table number of `nbits` bits stands for. The table numbers the words of its three formats separately
and they carry no format tag, so one number can name up to three rows; notes/assumptions/17 states this choice: a number
of more than 8 bits, or one the 3-bit mask of a CMD row covers, or one wider than a key, is a command word; else a SEQ
row's match value is a SEQ key; else it is a SYM key. -/
def tableCode (nbits w : Nat) : Option Code :=
  if nbits > 8 ∨ w < 8 ∨ 32 ≤ w then
    if w < 2 ^ 67 then some (.cmd (BitVec.ofNat 67 w)) else none
  else if isSeqMatch w then some (.seq (BitVec.ofNat 5 w))
  else some (.sym (BitVec.ofNat 5 w))

/-- The instruction the decoder reads from an opcode-table number (see `tableCode`). -/
def decodeTableWord (nbits w : Nat) : Option Instr := (tableCode nbits w).map decode

/-! ## Encoding -/

/-- The command word `{arg1[31:0], arg0[31:0], op[2:0]}` (30_encoding R110). -/
def cmdWord (op : BitVec 3) (arg0 arg1 : U32) : BitVec 67 := (arg1 ++ arg0) ++ op

/-- The word of an instruction, its ignored and don't-care bits 0; none for format CALL (30_encoding R117). -/
def encode : Instr → Option Code
  | .nop => some (.cmd (cmdWord 0b000 0 0))
  | .rst => some (.cmd (cmdWord 0b001 0 0))
  | .thr min max => some (.cmd (cmdWord 0b010 min max))
  | .cfg rate => some (.cmd (cmdWord 0b011 rate 0))
  | .smp sample power => some (.cmd (cmdWord 0b100 sample power))
  | .rsv5 => some (.cmd (cmdWord 0b101 0 0))
  | .rsv6 => some (.cmd (cmdWord 0b110 0 0))
  | .rsv7 => some (.cmd (cmdWord 0b111 0 0))
  | .sofhold => some (.seq 0b00000)
  | .sofovr => some (.seq 0b01100)
  | .sofb => some (.seq 0b01000)
  | .sofi => some (.seq 0b01001)
  | .sofe => some (.seq 0b01010)
  | .sofx => some (.seq 0b01011)
  | .trk => some (.seq 0b10000)
  | .feof => some (.sym 0b00110)
  | .fserrStart => some (.sym 0b11000)
  | .fserrStop => some (.sym 0b00100)
  | .ftruncStart => some (.sym 0b01001)
  | .ftruncData => some (.sym 0b00001)
  | .ftruncStop => some (.sym 0b10101)
  | .fstart => some (.sym 0b01000)
  | .fdata => some (.sym 0b00000)
  | .fpush => some (.sym 0b10100)
  | .ingest _ _ => none
  | .edge _ => none
  | .sofabt => none
  | .sofconf => none
  | .fterm _ => none
  | .fin _ => none
  | .cls _ => none
  | .crc _ => none
  | .rstm => none
  | .lstn => none

/-! ## Codes of the enumerations -/

/-- 30_encoding R131. -/
def SearchStage.code : SearchStage → BitVec 2
  | .beginStage => 0
  | .idleStage => 1
  | .endStage => 2
  | .reservedStage => 3

/-- 30_encoding R132. -/
def Pattern.code : Pattern → BitVec 2
  | .invalid => 0
  | .noPattern => 1
  | .patternL => 2
  | .patternH => 3

/-- 30_encoding R127, R131. -/
def FrameType.code : FrameType → BitVec 2
  | .noFrame => 0
  | .pollFrame => 1
  | .listenFrame => 2

/-- 30_encoding R127. -/
def Tech.code : Tech → Byte
  | .noTech => 0
  | .nfcA => 1
  | .nfcB => 2
  | .nfcF => 3
  | .nfcV => 4

/-- 30_encoding R127. -/
def Phase.code : Phase → BitVec 2
  | .carrierFrame => 0
  | .selectionFrame => 1
  | .applicationFrame => 2

/-- The rate index r (10_state R38, R50). -/
def Rate.code : Rate → BitVec 2
  | .k106 => 0
  | .k212 => 1
  | .k424 => 2

/-- The record's `length` field (30_encoding R125). -/
def FrameRecord.length (f : FrameRecord) : U16 := BitVec.ofNat 16 f.payload.length

end Sys2Proof
end

