-- ==== Sys2Proof/Config.lean ====
section
/-! DEFINITION. The free values: results the spec leaves open although the machine goes on. None has a body, so no proof
can see a value; a claim holds for every value. The open parameters `N` and `POWER_LEVEL_THRESHOLD` are fields of State. -/

namespace Sys2Proof

/-- FREE VALUE (notes/assumptions/6): sign and payload of the NaN that an operation of NUM gives on these operands.
The spec says the result is a NaN (41_edge_depth R178) and gives no bits for it. -/
opaque Config.nanResult : FloatOp → F32 → F32 → Bool × Fin 0x7FFFFF

/-- FREE VALUE (notes/assumptions/7): `RoundNearest(x)` where 00_scope R13 does not define it: `x` negative, infinite
or NaN. No reachable state asks for it. -/
opaque Config.roundNearestOutside : F32 → Nat

/-- FREE VALUE (notes/assumptions/8): the binary64 wall time `sample / sampleRate` with `sampleRate = 0`, which 30_encoding
R125 does not define. No frame is finalised in such a state in a run from reset. -/
opaque Config.wallTimeAtRateZero : Time → BitVec 64

end Sys2Proof
end

