-- ==== Sys2Proof/Machine/Float.lean ====
section
/-! DEFINITION. Real arithmetic (00_scope R13, D3): IEEE 754 binary32, each operation rounded once to nearest even. Every
finite binary32 number is a whole number of units of 2^-149, so an operation converts its operands to integers, computes
exactly, and narrows at the end (`roundMag`). Also `RoundNearest`, `F`, `K`, `ToSamples`, and the binary64 wall time. -/

namespace Sys2Proof

/-! ## Patterns -/

/-- The value a 32-bit pattern denotes. -/
def F32.ofBits (b : U32) : F32 :=
  let neg := b.msb
  let mag := b.toNat % 2 ^ 31
  if h : mag < 0x7F800000 then .finite neg ⟨mag, h⟩
  else if mag = 0x7F800000 then .inf neg
  else .nan neg ⟨mag - 0x7F800001, by omega⟩

/-- Bits 30..0 of the pattern. -/
def F32.mag : F32 → Nat
  | .finite _ m => m.val
  | .inf _ => 0x7F800000
  | .nan _ p => 0x7F800001 + p.val

def F32.isNeg : F32 → Bool
  | .finite n _ => n
  | .inf n => n
  | .nan n _ => n

/-- The 32-bit pattern of a value: `F32.ofBits` read backwards. -/
def F32.toBits (x : F32) : U32 := BitVec.ofNat 32 ((if x.isNeg then 2 ^ 31 else 0) + x.mag)

/-- `+0.0`. -/
def F32.zero : F32 := .finite false ⟨0, by omega⟩

def F32.isNaN : F32 → Bool
  | .finite _ _ => false
  | .inf _ => false
  | .nan _ _ => true

def F32.isFinite : F32 → Bool
  | .finite _ _ => true
  | .inf _ => false
  | .nan _ _ => false

/-! ## Rounding -/

/-- Round `num / den` units to a number with `frac` fraction bits, ties to even, where one unit is the least positive number
of the format. The answer is the magnitude pattern (exponent field, then fraction field), not bounded above: `e` is the
exponent of the last place, and a carry out of the significand runs into the exponent field as it should. -/
def roundMag (frac num den : Nat) : Nat :=
  let q := num / den
  let e := if q < 2 ^ (frac + 1) then 0 else q.log2 - frac
  let ulp := den * 2 ^ e
  let m := num / ulp
  let rest := num % ulp
  let up := decide (ulp < 2 * rest) || (decide (2 * rest = ulp) && decide (m % 2 = 1))
  e * 2 ^ frac + (if up then m + 1 else m)

/-- The finite number of a magnitude pattern, or infinity where it overflows the format. -/
def F32.ofMag (neg : Bool) (mag : Nat) : F32 :=
  if h : mag < 0x7F800000 then .finite neg ⟨mag, h⟩ else .inf neg

/-- A magnitude pattern's value in units of 2^-149. -/
def F32.units (mag : Nat) : Nat :=
  if mag / 2 ^ 23 = 0 then mag else (2 ^ 23 + mag % 2 ^ 23) * 2 ^ (mag / 2 ^ 23 - 1)

/-- A signed number of units. -/
def F32.signed (neg : Bool) (n : Nat) : Int := if neg then -(n : Int) else (n : Int)

/-- Round `± num / den` units of 2^-149 to binary32. -/
def F32.round (neg : Bool) (num den : Nat) : F32 := F32.ofMag neg (roundMag 23 num den)

/-- A NaN result: its sign and payload are free (notes/assumptions/6). -/
def F32.nanOf (op : FloatOp) (a b : F32) : F32 := .nan (Config.nanResult op a b).1 (Config.nanResult op a b).2

/-! ## The operations of 00_scope R13 -/

/-- The sum of two finite numbers. An exact zero sum is `-0.0` only of two negative zeros. -/
def F32.addFinite (na : Bool) (ma : Nat) (nb : Bool) (mb : Nat) : F32 :=
  let sum := F32.signed na (F32.units ma) + F32.signed nb (F32.units mb)
  F32.round (if sum = 0 then na && nb else decide (sum < 0)) sum.natAbs 1

def fadd (a b : F32) : F32 :=
  match a, b with
  | .finite na ma, .finite nb mb => F32.addFinite na ma.val nb mb.val
  | .finite _ _, .inf nb => .inf nb
  | .inf na, .finite _ _ => .inf na
  | .inf na, .inf nb => if na = nb then .inf na else F32.nanOf .add a b
  | .finite _ _, .nan _ _ => F32.nanOf .add a b
  | .inf _, .nan _ _ => F32.nanOf .add a b
  | .nan _ _, .finite _ _ => F32.nanOf .add a b
  | .nan _ _, .inf _ => F32.nanOf .add a b
  | .nan _ _, .nan _ _ => F32.nanOf .add a b

def fsub (a b : F32) : F32 :=
  match a, b with
  | .finite na ma, .finite nb mb => F32.addFinite na ma.val (!nb) mb.val
  | .finite _ _, .inf nb => .inf (!nb)
  | .inf na, .finite _ _ => .inf na
  | .inf na, .inf nb => if na = !nb then .inf na else F32.nanOf .sub a b
  | .finite _ _, .nan _ _ => F32.nanOf .sub a b
  | .inf _, .nan _ _ => F32.nanOf .sub a b
  | .nan _ _, .finite _ _ => F32.nanOf .sub a b
  | .nan _ _, .inf _ => F32.nanOf .sub a b
  | .nan _ _, .nan _ _ => F32.nanOf .sub a b

def fmul (a b : F32) : F32 :=
  match a, b with
  | .finite na ma, .finite nb mb => F32.round (na ^^ nb) (F32.units ma.val * F32.units mb.val) (2 ^ 149)
  | .finite na ma, .inf nb => if ma.val = 0 then F32.nanOf .mul a b else .inf (na ^^ nb)
  | .inf na, .finite nb mb => if mb.val = 0 then F32.nanOf .mul a b else .inf (na ^^ nb)
  | .inf na, .inf nb => .inf (na ^^ nb)
  | .finite _ _, .nan _ _ => F32.nanOf .mul a b
  | .inf _, .nan _ _ => F32.nanOf .mul a b
  | .nan _ _, .finite _ _ => F32.nanOf .mul a b
  | .nan _ _, .inf _ => F32.nanOf .mul a b
  | .nan _ _, .nan _ _ => F32.nanOf .mul a b

def fdiv (a b : F32) : F32 :=
  match a, b with
  | .finite na ma, .finite nb mb =>
    if mb.val = 0 then (if ma.val = 0 then F32.nanOf .div a b else .inf (na ^^ nb))
    else F32.round (na ^^ nb) (F32.units ma.val * 2 ^ 149) (F32.units mb.val)
  | .finite na _, .inf nb => F32.ofMag (na ^^ nb) 0
  | .inf na, .finite nb _ => .inf (na ^^ nb)
  | .inf _, .inf _ => F32.nanOf .div a b
  | .finite _ _, .nan _ _ => F32.nanOf .div a b
  | .inf _, .nan _ _ => F32.nanOf .div a b
  | .nan _ _, .finite _ _ => F32.nanOf .div a b
  | .nan _ _, .inf _ => F32.nanOf .div a b
  | .nan _ _, .nan _ _ => F32.nanOf .div a b

/-- `fabs(a)` clears the sign. -/
def fabs : F32 → F32
  | .finite _ m => .finite false m
  | .inf _ => .inf false
  | .nan _ p => .nan false p

/-- `-a`. -/
def fneg : F32 → F32
  | .finite n m => .finite (!n) m
  | .inf n => .inf (!n)
  | .nan n p => .nan (!n) p

/-- The place of a number in the order of the format; `+0.0` and `-0.0` have the same place, a NaN has none. -/
def F32.order : F32 → Option Int
  | .finite n m => some (F32.signed n m.val)
  | .inf n => some (F32.signed n 0x7F800000)
  | .nan _ _ => none

/-- `a > b`: "false when either side is NaN" (00_scope R13). -/
def F32.gt (a b : F32) : Bool :=
  match a.order, b.order with
  | some x, some y => decide (y < x)
  | some _, none => false
  | none, some _ => false
  | none, none => false

/-- `a < b`. -/
def F32.lt (a b : F32) : Bool := F32.gt b a

/-! ## Conversions -/

/-- `F(k)`: an integer to NUM. -/
def F32.ofNat (k : Nat) : F32 := F32.round false (k * 2 ^ 149) 1

/-- `K(x)`: the decimal literal `num / den` rounded to the nearest NUM value. -/
def F32.ofRatio (num den : Nat) : F32 := F32.round false (num * 2 ^ 149) den

/-- `RoundNearest(x)`, `floor(x + 1/2)` on the exact value of a finite `x ≥ 0` (00_scope R13); free elsewhere. -/
def roundNearest (x : F32) : Nat :=
  match x with
  | .finite neg m =>
    if neg && m.val != 0 then Config.roundNearestOutside x else (2 * F32.units m.val + 2 ^ 149) / 2 ^ 150
  | .inf _ => Config.roundNearestOutside x
  | .nan _ _ => Config.roundNearestOutside x

/-- `ToSamples(c)`: `c` carrier cycles in samples, kept in a `u32` register (40_configuration R155, 00_scope R10). -/
def toSamples (unit : F32) (c : Nat) : U32 := BitVec.ofNat 32 (roundNearest (fmul unit (F32.ofNat c)))

/-- A wall time in seconds: "the exact quotients rounded once to binary64" (30_encoding R125). A binary64 number is a whole
number of units of 2^-1074. -/
def wallTime (sample : Time) (rate : U32) : BitVec 64 :=
  if rate = 0 then Config.wallTimeAtRateZero sample
  else BitVec.ofNat 64 (roundMag 52 (sample.toNat * 2 ^ 1074) rate.toNat)

/-! ## The literals of the rules (70_reset_and_hazards R346) -/

/-- `K(0.10)`, the default minimum threshold (10_state R36). -/
def literalTenth : F32 := F32.ofBits 0x3DCCCCCD

/-- `K(0.50)`, the default maximum threshold (10_state R36). -/
def literalHalf : F32 := F32.ofBits 0x3F000000

/-- `EDGE_MIN = K(0.001)` (00_scope R9). -/
def edgeMin : F32 := F32.ofBits 0x3A83126F

/-- `K(0.01)`, the `POWER_LEVEL_THRESHOLD` of the spec's vectors (95_test_vectors B1). -/
def literalHundredth : F32 := F32.ofBits 0x3C23D70A

/-- `F(13560000)`, the carrier (00_scope R9). -/
def carrierHz : F32 := F32.ofNat 13560000

end Sys2Proof
end

