-- ==== Sys2Proof/Machine/State.lean ====
section
/-! DEFINITION. The state of the block (10_state), the reasons a step can stop, and the state after reset (10_state R58).
A field's comment gives its number in 10_state. State is plain data. -/

namespace Sys2Proof.Machine

/-- A memory of `w`-bit cells: (cell number, value) pairs in one canonical form, see `Memory.wf`. -/
abbrev Memory (w : Nat) := List (Nat × BitVec w)

/-- The canonical form: cell numbers strictly rising, and no entry equal to what an unlisted cell reads as, which is 0. -/
abbrev Memory.wf {w : Nat} (m : Memory w) : Prop :=
  m.Pairwise (fun c d => c.1 < d.1) ∧ ∀ c ∈ m, c.2 ≠ 0

/-- Every listed cell exists: its number is below `n`. -/
abbrev Memory.below {w : Nat} (m : Memory w) (n : Nat) : Prop := ∀ c ∈ m, c.1 < n

/-- The table of one rate (10_state R38). -/
structure BitrateParams where
  symbolsPerSecond : U32    -- S10
  period1 : U32             -- S11
  period2 : U32             -- S12
  period4 : U32             -- S13
  period8 : U32             -- S14
  symbolDelayDetect : U32   -- S15
  offsetSignalIndex : U32   -- S16
  offsetPeriod1Index : U32  -- S17
  offsetFilterIndex : U32   -- S18
  offsetDetectIndex : U32   -- S19
  weightA : F32             -- S20
  weightB : F32             -- S21
  deriving DecidableEq, Repr

/-- The detector state of one rate (10_state R40 to R44). -/
structure ModulationStatus where
  filterIntegrate : F32     -- S22
  detectIntegrate : F32     -- S23
  phaseIntegrate : F32      -- S24
  searchStage : SearchStage -- S25
  searchStartTime : Time    -- S26
  searchEndTime : Time      -- S27
  searchPeakTime : Time     -- S28
  detectorPeek : F32        -- S29
  searchDeepValue : F32     -- S30
  symbolStartTime : Time    -- S31
  symbolEndTime : Time      -- S32
  symbolSyncTime : Time     -- S33
  deriving DecidableEq, Repr

/-- The last symbol the tracker produced (10_state R45). `startAt` and `endAt` are the spec's `start` and `end`. -/
structure SymbolStatus where
  pattern : Pattern         -- S34
  value : BitVec 1          -- S35
  startAt : Time            -- S36
  endAt : Time              -- S37
  length : Time             -- S38
  deriving DecidableEq, Repr

/-- The framer's registers and the stream buffer (10_state R46). -/
structure StreamStatus where
  buffer : Memory 8         -- S39
  bytes : U16               -- S40
  data : Byte               -- S41
  bits : BitVec 4           -- S42
  deriving DecidableEq, Repr

/-- 10_state R47, R48. -/
structure FrameStatus where
  frameType : FrameType     -- S43
  frameStart : Time         -- S44
  frameEnd : Time           -- S45
  guardEnd : Time           -- S46
  waitingEnd : Time         -- S47
  lastCommand : Byte        -- S48
  frameGuardTime : U32      -- S49
  frameWaitingTime : U32    -- S50
  startUpGuardTime : U32    -- S51
  requestGuardTime : U32    -- S52
  symbolRate : U32          -- S53
  lastFrameEnd : Time       -- S54
  deriving DecidableEq, Repr

/-- 10_state R49. -/
structure ProtocolStatus where
  maxFrameSize : U16        -- S55
  frameGuardTime : U32      -- S56
  frameWaitingTime : U32    -- S57
  startUpGuardTime : U32    -- S58
  requestGuardTime : U32    -- S59
  deriving DecidableEq, Repr

/-- The MODEL's own: a command the host presents, with the level of the `powerLevelThreshold` pin while the block takes it
(10_state R35: "an input pin read at every `SMP`"). See notes/assumptions/1 and 2. -/
structure PortCommand where
  word : BitVec 67
  pin : F32
  deriving DecidableEq, Repr

/-- The MODEL's own: the value a micro-operation returns (00_scope R12). See notes/assumptions/9. -/
inductive Returned where
  | nothing
  | edge (e a d : F32)
  | detection (confirmed : Bool)
  | symbol (pattern : Option Pattern)
  | crc (ok : Bool)
  | listenNoFrame
  deriving DecidableEq, Repr

structure State where
  signalClock : Time                     -- S0
  signalData : Memory 32                 -- S1
  powerAverage : F32                     -- S2
  powerLevelThreshold : F32              -- S3
  sampleRate : U32                       -- S4
  sampleTimeUnit : F32                   -- S5
  minimumModulationThreshold : F32       -- S6
  maximumModulationThreshold : F32       -- S7
  configured : Bool                      -- S8
  configError : Bool                     -- S9
  params : PerRate BitrateParams         -- S10 to S21
  mods : PerRate ModulationStatus        -- S22 to S33
  symbol : SymbolStatus                  -- S34 to S38
  stream : StreamStatus                  -- S39 to S42
  frame : FrameStatus                    -- S43 to S54
  protocol : ProtocolStatus              -- S55 to S59
  activeValid : Bool                     -- S60
  activeRate : Rate                      -- S61
  chainedFlags : Byte                    -- S62
  frameOut : FrameRecord                 -- S63
  sofConfirmed : Bool                    -- S64
  frameValid : Bool                      -- S65
  windowBits : Fin 32                    -- log2 of the parameter N (notes/assumptions/3)
  port : List PortCommand                -- the model's own input list (notes/assumptions/1)
  returned : Returned                    -- the model's own (notes/assumptions/9)
  deriving DecidableEq, Repr

/-- Why the machine stops with a fault. The hardware has no trap (60_exceptions R310); this is the model's. -/
inductive Fault where
  /-- Raised by `FPUSH` when `bytes ≥ 256` and by `FIN` (so by `FTERM`, `FEOF`, `FSERR`, `FTRUNC`, `SMP`) when `bytes > 256`:
  the stream buffer has 256 cells (20_memory R80), so the access names a cell that does not exist. Safe: no reachable
  state does it (20_memory R90), and the hardware is not claimed to do anything there. notes/assumptions/15. -/
  | noBufferCell
  deriving DecidableEq, Repr

/-- Why the machine refuses an instruction. -/
inductive Refusal where
  /-- Raised by `exec` alone, for an instruction that has no meaning yet. Safe. No arm does so. -/
  | notModelled (mnemonic : String)
  deriving DecidableEq, Repr

/-- The outcome of an operation. -/
abbrev Result := Host.Outcome State Fault Refusal

/-! ## Reset (10_state R58) -/

def BitrateParams.reset : BitrateParams where
  symbolsPerSecond := 0
  period1 := 0
  period2 := 0
  period4 := 0
  period8 := 0
  symbolDelayDetect := 0
  offsetSignalIndex := 0
  offsetPeriod1Index := 0
  offsetFilterIndex := 0
  offsetDetectIndex := 0
  weightA := F32.zero
  weightB := F32.zero

def ModulationStatus.reset : ModulationStatus where
  filterIntegrate := F32.zero
  detectIntegrate := F32.zero
  phaseIntegrate := F32.zero
  searchStage := .beginStage
  searchStartTime := 0
  searchEndTime := 0
  searchPeakTime := 0
  detectorPeek := F32.zero
  searchDeepValue := F32.zero
  symbolStartTime := 0
  symbolEndTime := 0
  symbolSyncTime := 0

def SymbolStatus.reset : SymbolStatus where
  pattern := .invalid
  value := 0
  startAt := 0
  endAt := 0
  length := 0

def StreamStatus.reset : StreamStatus where
  buffer := []
  bytes := 0
  data := 0
  bits := 0

def FrameStatus.reset : FrameStatus where
  frameType := .noFrame
  frameStart := 0
  frameEnd := 0
  guardEnd := 0
  waitingEnd := 0
  lastCommand := 0
  frameGuardTime := 0
  frameWaitingTime := 0
  startUpGuardTime := 0
  requestGuardTime := 0
  symbolRate := 0
  lastFrameEnd := 0

def ProtocolStatus.reset : ProtocolStatus where
  maxFrameSize := 0
  frameGuardTime := 0
  frameWaitingTime := 0
  startUpGuardTime := 0
  requestGuardTime := 0

/-- `frameOut` after reset: "unspecified" (10_state R58), DESIGN CHOICE all zero (notes/assumptions/5). -/
def FrameRecord.reset : FrameRecord where
  tech := .noTech
  frameType := .noFrame
  phase := .carrierFrame
  flags := 0
  rate := 0
  sampleStart := 0
  sampleEnd := 0
  timeStart := 0
  timeEnd := 0
  payload := []

/-- The state after power-on and after `RST` (10_state R58, 70_reset_and_hazards R340). The pin, the parameter and the buffer
cells have no reset value in the spec: notes/assumptions/2, 3 and 4. -/
def State.reset : State where
  signalClock := 0
  signalData := []
  powerAverage := F32.zero
  powerLevelThreshold := literalHundredth
  sampleRate := 0
  sampleTimeUnit := F32.zero
  minimumModulationThreshold := literalTenth
  maximumModulationThreshold := literalHalf
  configured := false
  configError := false
  params := ⟨BitrateParams.reset, BitrateParams.reset, BitrateParams.reset⟩
  mods := ⟨ModulationStatus.reset, ModulationStatus.reset, ModulationStatus.reset⟩
  symbol := SymbolStatus.reset
  stream := StreamStatus.reset
  frame := FrameStatus.reset
  protocol := ProtocolStatus.reset
  activeValid := false
  activeRate := .k106
  chainedFlags := 0
  frameOut := FrameRecord.reset
  sofConfirmed := false
  frameValid := false
  windowBits := 12
  port := []
  returned := .nothing

end Sys2Proof.Machine
end

