-- ==== Sys2Proof/Machine/Ops.lean ====
section
/-! DEFINITION. The named operations over memories and registers: cell read and write, the window and the stream buffer
(20_memory), per-rate registers, and what stands in the place of exceptions (60_exceptions R310): the configuration error,
the SOF abort and the modulation reset. -/

namespace Sys2Proof.Machine

/-! ## Memories -/

/-- What a cell that is not listed reads as: `+0.0` in the window (10_state R32), and 0 in the stream buffer, whose reset
content the spec leaves unspecified (notes/assumptions/4). -/
def Memory.unlisted (w : Nat) : BitVec w := 0

/-- Read one cell. -/
def Memory.read {w : Nat} : Memory w → Nat → BitVec w
  | [], _ => Memory.unlisted w
  | (k, v) :: rest, a => if a = k then v else if a < k then Memory.unlisted w else Memory.read rest a

/-- Write one cell, keeping the canonical form: a value equal to the unlisted one is not listed. -/
def Memory.write {w : Nat} : Memory w → Nat → BitVec w → Memory w
  | [], a, v => if v = Memory.unlisted w then [] else [(a, v)]
  | (k, u) :: rest, a, v =>
    if a < k then (if v = Memory.unlisted w then (k, u) :: rest else (a, v) :: (k, u) :: rest)
    else if a = k then (if v = Memory.unlisted w then rest else (k, v) :: rest)
    else (k, u) :: Memory.write rest a v

/-- `N`, the length of the Signal Window (00_scope R9). -/
def windowLength (s : State) : Nat := 2 ^ s.windowBits.val

/-- The cell an index names: `i & (N-1)`, its low log2(N) bits (20_memory R83). -/
def windowCell (s : State) (i : Time) : Nat := i.toNat % windowLength s

/-- `WinRead(i)` (20_memory R83). -/
def winRead (s : State) (i : Time) : F32 := F32.ofBits (s.signalData.read (windowCell s i))

/-- `WinWrite(i, v)` (20_memory R82). -/
def winWrite (i : Time) (v : U32) (s : State) : State :=
  { s with signalData := s.signalData.write (windowCell s i) v }

/-- The number of cells of the stream buffer (20_memory R80). -/
def bufferCells : Nat := 256

/-- `BufPush(v)` (20_memory R90); a fault where the cell does not exist. -/
def bufPush (v : Byte) (s : State) : Result :=
  if s.stream.bytes.toNat < bufferCells then
    .next { s with stream := { s.stream with
      buffer := s.stream.buffer.write s.stream.bytes.toNat v
      bytes := s.stream.bytes + 1 } }
  else .fault .noBufferCell

/-- The payload, cells `0 .. bytes-1` in order (20_memory R91). -/
def payload (s : State) : List Byte := (List.range s.stream.bytes.toNat).map s.stream.buffer.read

/-! ## Outcomes -/

/-- Run an operation on the state another one left, if it left one. -/
def andThen (r : Result) (f : State → Result) : Result :=
  match r with
  | .next s => f s
  | .fault e => .fault e
  | .refused e => .refused e

/-! ## Per-rate registers -/

def perRateGet {α : Type} (t : PerRate α) : Rate → α
  | .k106 => t.k106
  | .k212 => t.k212
  | .k424 => t.k424

def perRateSet {α : Type} (t : PerRate α) (r : Rate) (v : α) : PerRate α :=
  match r with
  | .k106 => { t with k106 := v }
  | .k212 => { t with k212 := v }
  | .k424 => { t with k424 := v }

/-- `BitrateParams[r]`. -/
def paramsOf (r : Rate) (s : State) : BitrateParams := perRateGet s.params r

/-- `ModulationStatus[r]`. -/
def modOf (r : Rate) (s : State) : ModulationStatus := perRateGet s.mods r

/-- Write `ModulationStatus[r]`. -/
def setMod (r : Rate) (m : ModulationStatus) (s : State) : State := { s with mods := perRateSet s.mods r m }

/-- The rate the SOF detector runs for: "for rate `r = 0` only" (42_sof_state_machine, head). -/
def searchRate : Rate := .k106

/-- A micro-operation's `return X` (00_scope R12). -/
def returning (x : Returned) (s : State) : State := { s with returned := x }

/-- A 32-bit register in time arithmetic: "zero-extended to 64 bits" (00_scope R14). -/
def toTime (v : U32) : Time := v.setWidth 64

/-! ## In the place of exceptions -/

/-- `raise ConfigError` (60_exceptions R311): "`configError <- 1`, `configured <- 0`; nothing else is written". -/
def raiseConfigError (s : State) : State := { s with configured := false, configError := true }

/-- The registers `SOFABT` clears (42_sof_state_machine R188). -/
def ModulationStatus.abortSearch (m : ModulationStatus) : ModulationStatus :=
  { m with
    searchStage := .beginStage
    searchStartTime := 0
    searchEndTime := 0
    searchPeakTime := 0
    detectorPeek := F32.zero
    symbolStartTime := 0
    symbolEndTime := 0 }

/-- `SOFABT()`, the recovery of the SOF detector (42_sof_state_machine R188): "It writes rate 0 only". -/
def sofAbort (s : State) : State := setMod searchRate (modOf searchRate s).abortSearch s

/-- The registers of one rate that `RSTM` clears (47_reset_and_dispatch R295). -/
def ModulationStatus.resetTimes (m : ModulationStatus) : ModulationStatus :=
  { m with
    searchStage := .beginStage
    searchStartTime := 0
    searchEndTime := 0
    searchPeakTime := 0
    detectorPeek := F32.zero
    symbolStartTime := 0
    symbolEndTime := 0
    symbolSyncTime := 0 }

/-- `RSTM()`, the modulation reset (47_reset_and_dispatch R295); what it leaves alone is R296. -/
def resetModulation (s : State) : State :=
  { s with
    mods := ⟨s.mods.k106.resetTimes, s.mods.k212.resetTimes, s.mods.k424.resetTimes⟩
    symbol := { pattern := .invalid, value := 0, startAt := 0, endAt := 0, length := 0 }
    stream := { s.stream with bytes := 0, data := 0, bits := 0 }
    frame := { s.frame with frameType := .noFrame, frameStart := 0, frameEnd := 0 }
    activeValid := false
    activeRate := .k106 }

end Sys2Proof.Machine
end

