-- ==== Sys2Proof/Machine/Operands.lean ====
section
/-! DEFINITION. The operand values the operations read: the window indices and the samples they name (10_state R39, 20_memory
R84), the edge triple (E, A, D) of a sample (41_edge_depth R171 to R173), and the binary32 operands of commands.

`E`, `A` and `D` "are values of this sample, not registers" (R171). After `EDGE(r)` they are functions of the state it
left: the integrators hold the updated sums, and the window and the clock have not moved. -/

namespace Sys2Proof.Machine

/-- `signal[signalIndex]`, the sample of clock `t - delay` (10_state R39, 20_memory R84). -/
def sampleNow (r : Rate) (s : State) : F32 :=
  winRead s (toTime (paramsOf r s).offsetSignalIndex + s.signalClock)

/-- `signal[filterIndex]`, the tail of the slow integrator. -/
def sampleFilterTail (r : Rate) (s : State) : F32 :=
  winRead s (toTime (paramsOf r s).offsetFilterIndex + s.signalClock)

/-- `signal[detectIndex]`, the tail of the fast integrator. -/
def sampleDetectTail (r : Rate) (s : State) : F32 :=
  winRead s (toTime (paramsOf r s).offsetDetectIndex + s.signalClock)

/-- `E`, the signed edge: the two quotients, then their difference (41_edge_depth R171, R172). -/
def signedEdge (r : Rate) (s : State) : F32 :=
  fsub (fdiv (modOf r s).filterIntegrate (F32.ofNat (paramsOf r s).period4.toNat))
    (fdiv (modOf r s).detectIntegrate (F32.ofNat (paramsOf r s).period8.toNat))

/-- `A`, the rectified edge (41_edge_depth R171). -/
def rectifiedEdge (r : Rate) (s : State) : F32 := fabs (signedEdge r s)

/-- `D`, the modulation depth: the subtraction, then the quotient (41_edge_depth R172, R173). -/
def depth (r : Rate) (s : State) : F32 := fdiv (fsub s.powerAverage (sampleNow r s)) s.powerAverage

/-- The rate of a sample step: `activeRate` while tracking, 0 while searching (47_reset_and_dispatch R291). -/
def stepRate (s : State) : Rate := if s.activeValid then s.activeRate else searchRate

end Sys2Proof.Machine
end

