-- ==== Sys2Proof/Machine/Flags.lean ====
section
/-! DEFINITION. Every condition the block computes: the threshold tests and the sequencing key (30_encoding R115), the framer
key and the terminator conditions (30_encoding R116, 44_bit_byte_framer R236), and the flag bits of the frame record
(30_encoding R126). -/

namespace Sys2Proof.Machine

/-! ## Threshold tests: strict, and false on NaN (70_reset_and_hazards R346) -/

/-- `g`: the power gate (42_sof_state_machine R186). -/
def gateOpen (s : State) : Bool := F32.gt s.powerAverage s.powerLevelThreshold

/-- `o`: modulation overshoot (42_sof_state_machine R187). -/
def overshoot (r : Rate) (s : State) : Bool := F32.gt (depth r s) s.maximumModulationThreshold

/-- The current sample is modulated (30_encoding R120). -/
def modulated (r : Rate) (s : State) : Bool := F32.gt (depth r s) s.minimumModulationThreshold

/-- `E > EDGE_MIN`. -/
def risesAboveFloor (r : Rate) (s : State) : Bool := F32.gt (signedEdge r s) edgeMin

/-- `E < -EDGE_MIN`. -/
def fallsBelowFloor (r : Rate) (s : State) : Bool := F32.lt (signedEdge r s) (fneg edgeMin)

/-- `A > EDGE_MIN`. -/
def leavesFloor (r : Rate) (s : State) : Bool := F32.gt (rectifiedEdge r s) edgeMin

/-! ## The keys -/

/-- Five conditions as a key, the first in bit 4. -/
def packKey (b4 b3 b2 b1 b0 : Bool) : BitVec 5 :=
  BitVec.ofBool b4 ++ BitVec.ofBool b3 ++ BitVec.ofBool b2 ++ BitVec.ofBool b1 ++ BitVec.ofBool b0

/-- The SEQ key `K = a g o st` of a sample of rate `r` (30_encoding R115). -/
def seqKey (r : Rate) (s : State) : BitVec 5 :=
  let st := s.mods.k106.searchStage.code
  packKey s.activeValid (gateOpen s) (overshoot r s) (st.getLsbD 1) (st.getLsbD 0)

/-- The buffer is full (30_encoding R116 `f`). -/
def bufferFull (s : State) : Bool := s.stream.bytes == s.protocol.maxFrameSize

/-- The SYM key `F = p z n e f` (30_encoding R116). -/
def symKey (s : State) : BitVec 5 :=
  packKey (s.symbol.pattern == .patternH) (s.stream.bits == 0) (s.stream.bits == 9) (s.stream.data == 0) (bufferFull s)

/-! ## Terminators (44_bit_byte_framer R236) -/

def frameEndCond (s : State) : Bool :=
  s.stream.bits == 9 && s.stream.data == 0 && s.symbol.pattern == .patternL

def streamErrorCond (s : State) : Bool :=
  !frameEndCond s && ((s.stream.bits == 0 && s.symbol.pattern == .patternH) ||
    (s.stream.bits == 9 && s.symbol.pattern == .patternL))

def truncateErrorCond (s : State) : Bool := !frameEndCond s && !streamErrorCond s && bufferFull s

/-! ## Frame flags (30_encoding R126) -/

def flagShortFrame : Byte := 0x01
def flagEncrypted : Byte := 0x02
def flagTruncated : Byte := 0x08
def flagParityError : Byte := 0x10
def flagCrcError : Byte := 0x20
def flagSyncError : Byte := 0x40

end Sys2Proof.Machine
end

