-- ==== Sys2Proof/Machine/EdgeDepth.lean ====
section
/-! DEFINITION. Family integrator_pair_edge_detector: `EDGE` (41_edge_depth R170 to R173). -/

namespace Sys2Proof.Machine

/-- The integrators after the current sample: the subtraction first, then the sum (41_edge_depth R170, R172). -/
def updatedIntegrators (r : Rate) (s : State) : ModulationStatus :=
  { modOf r s with
    filterIntegrate := fadd (modOf r s).filterIntegrate (fsub (sampleNow r s) (sampleFilterTail r s))
    detectIntegrate := fadd (modOf r s).detectIntegrate (fsub (sampleNow r s) (sampleDetectTail r s)) }

/-- `EDGE(r)`: update the integrators, then return `(E, A, D)` (41_edge_depth R173). -/
def edgeOp (r : Rate) (s : State) : State :=
  let s' := setMod r (updatedIntegrators r s) s
  returning (.edge (signedEdge r s') (rectifiedEdge r s') (depth r s')) s'

/-- `EDGE` (41_edge_depth R170). -/
def execEdge (r : Rate) (s : State) : Result := .next (edgeOp r s)

end Sys2Proof.Machine
end

