-- ==== Sys2Proof/Machine/Configuration.lean ====
section
/-! DEFINITION. Family of the configuration commands: `NOP`, `RST`, `THR`, `CFG` (40_configuration) and the reserved command
codes (30_encoding R114). -/

namespace Sys2Proof.Machine

/-! ## Derived tables (40_configuration R153 to R158) -/

/-- `RoundNearest(sampleTimeUnit × c)`: an integer number of samples (40_configuration R153). -/
def samplesIn (unit : F32) (c : Nat) : Nat := roundNearest (fmul unit (F32.ofNat c))

/-- `sampleTimeUnit` of a sample rate (40_configuration R152). -/
def timeUnit (rate : U32) : F32 := fdiv (F32.ofNat rate.toNat) carrierHz

/-- Carrier cycles of a symbol at rate r: `128 >> r`; a half, a quarter and an eighth of it are `64`, `32`, `16 >> r`. -/
def cyclesAt (c : Nat) : Rate → Nat
  | .k106 => c
  | .k212 => c >>> 1
  | .k424 => c >>> 2

/-- `T.p1[r]`. -/
def period1At (unit : F32) (r : Rate) : Nat := samplesIn unit (cyclesAt 128 r)

/-- `T.dl[r]`: the sum of the periods of the rates before (40_configuration R153). -/
def delayAt (unit : F32) : Rate → Nat
  | .k106 => 0
  | .k212 => period1At unit .k106
  | .k424 => period1At unit .k106 + period1At unit .k212

/-- `maxDelay` (40_configuration R157). -/
def maxDelay (unit : F32) : Nat :=
  max (delayAt unit .k106 + period1At unit .k106)
    (max (delayAt unit .k212 + period1At unit .k212) (delayAt unit .k424 + period1At unit .k424))

/-- The `ConfigError` test of window length `n` (40_configuration R158). -/
def configFails (n : Nat) (unit : F32) : Bool :=
  decide (period1At unit .k106 < 8) || decide (period1At unit .k212 < 8) || decide (period1At unit .k424 < 8) ||
    decide (n ≤ maxDelay unit)

/-- The table of one rate (40_configuration R152 to R154). The weights stay at 0: NFCLAB gives no formula (R152 (d)). -/
def tableFor (n : Nat) (unit : F32) (r : Rate) (old : BitrateParams) : BitrateParams :=
  let p1 := period1At unit r
  let p4 := samplesIn unit (cyclesAt 32 r)
  let p8 := samplesIn unit (cyclesAt 16 r)
  let dl := delayAt unit r
  { old with
    symbolsPerSecond := BitVec.ofNat 32 (13560000 / cyclesAt 128 r)
    period1 := BitVec.ofNat 32 p1
    period2 := BitVec.ofNat 32 (samplesIn unit (cyclesAt 64 r))
    period4 := BitVec.ofNat 32 p4
    period8 := BitVec.ofNat 32 p8
    symbolDelayDetect := BitVec.ofNat 32 dl
    offsetSignalIndex := BitVec.ofNat 32 (n - dl)
    offsetPeriod1Index := BitVec.ofNat 32 (n - dl - p1)
    offsetFilterIndex := BitVec.ofNat 32 (n - dl - p4)
    offsetDetectIndex := BitVec.ofNat 32 (n - dl - p8) }

/-- `ProtocolDefaults()` (40_configuration R156). -/
def protocolDefaults (unit : F32) : ProtocolStatus where
  maxFrameSize := 256
  frameGuardTime := toSamples unit (128 * 7)
  frameWaitingTime := toSamples unit (256 * 16 * 16)
  startUpGuardTime := toSamples unit (256 * 16)
  requestGuardTime := toSamples unit 7000

/-- `CFG` zeroes the three integrators of a rate (40_configuration R152). -/
def ModulationStatus.clearIntegrators (m : ModulationStatus) : ModulationStatus :=
  { m with filterIntegrate := F32.zero, detectIntegrate := F32.zero, phaseIntegrate := F32.zero }

/-- The writes of a `CFG` that succeeds, before its `RSTM` (40_configuration R152). -/
def loadConfiguration (rate : U32) (s : State) : State :=
  let unit := timeUnit rate
  let n := windowLength s
  let ps := protocolDefaults unit
  { s with
    sampleRate := rate
    sampleTimeUnit := unit
    params := ⟨tableFor n unit .k106 s.params.k106, tableFor n unit .k212 s.params.k212, tableFor n unit .k424 s.params.k424⟩
    mods := ⟨s.mods.k106.clearIntegrators, s.mods.k212.clearIntegrators, s.mods.k424.clearIntegrators⟩
    protocol := ps
    frame := { s.frame with
      frameGuardTime := ps.frameGuardTime
      frameWaitingTime := ps.frameWaitingTime
      startUpGuardTime := ps.startUpGuardTime
      requestGuardTime := ps.requestGuardTime
      symbolRate := 0
      guardEnd := 0
      waitingEnd := 0
      lastCommand := 0
      lastFrameEnd := 0 }
    chainedFlags := 0 }

/-- Its last writes. -/
def finishConfiguration (s : State) : State :=
  { s with sofConfirmed := false, frameValid := false, configured := true }

/-! ## The commands -/

/-- `NOP` (40_configuration R159). -/
def execNop (s : State) : Result := .next s

/-- `RST` (40_configuration R150): every piece of state takes its reset value. The pin, the parameter `N` and the commands
not yet taken are not state of the block and stay. -/
def execRst (s : State) : Result :=
  .next { State.reset with
    powerLevelThreshold := s.powerLevelThreshold
    windowBits := s.windowBits
    port := s.port }

/-- `THR min, max` (40_configuration R151). -/
def execThr (min max : U32) (s : State) : Result :=
  if s.configError then .next s
  else .next { s with
    minimumModulationThreshold := F32.ofBits min
    maximumModulationThreshold := F32.ofBits max }

/-- `CFG sampleRate` (40_configuration R152). -/
def execCfg (rate : U32) (s : State) : Result :=
  if s.configError then .next s
  else if configFails (windowLength s) (timeUnit rate) then .next (raiseConfigError s)
  else .next (finishConfiguration (resetModulation (loadConfiguration rate s)))

/-- Reserved command code 101: "ignored, no state changes, exactly as `NOP`" (30_encoding R114). -/
def execRsv5 (s : State) : Result := .next s

/-- Reserved command code 110 (30_encoding R114). -/
def execRsv6 (s : State) : Result := .next s

/-- Reserved command code 111 (30_encoding R114). -/
def execRsv7 (s : State) : Result := .next s

end Sys2Proof.Machine
end

