-- ==== Sys2Proof/Machine/Crc.lean ====
section
/-! DEFINITION. Family crc16_iso13239_validator: `CRC` (46_crc16). -/

namespace Sys2Proof.Machine

/-- One byte of the recurrence (46_crc16 R281). -/
def crcByte (crc : U16) (b : Byte) : U16 :=
  let d : Byte := b ^^^ crc.setWidth 8
  let d : Byte := d ^^^ (d <<< 4)
  let w : U16 := d.setWidth 16
  (crc >>> 8) ^^^ (w <<< 8) ^^^ (w <<< 3) ^^^ (w >>> 4)

/-- `crc16(b[0..n-1])` (46_crc16 R281). -/
def crc16 (bytes : List Byte) : U16 := ~~~ (bytes.foldl crcByte 0xFFFF)

/-- The trailer, low byte first (46_crc16 R283, 30_encoding R129). -/
def trailer (frame : List Byte) : U16 :=
  let lo := frame.getD (frame.length - 2) 0
  let hi := frame.getD (frame.length - 1) 0
  lo.setWidth 16 ||| (hi.setWidth 16 <<< 8)

/-- `CRC(rec)` (46_crc16 R283). -/
def crcCheck (frame : List Byte) : Bool :=
  if frame.length ≤ 2 then false else crc16 (frame.take (frame.length - 2)) == trailer frame

/-- `CRC` (46_crc16 R283): its only output is the boolean it returns (R280). -/
def execCrc (f : FrameRecord) (s : State) : Result := .next (returning (.crc (crcCheck f.payload)) s)

end Sys2Proof.Machine
end

