-- ==== Sys2Proof/Machine/Classifier.lean ====
section
/-! DEFINITION. Family protocol_phase_classifier: `CLS` (45_protocol_classifier R261), its six steps in order. It reads and
writes the record it is given; the completed record is left in `frameOut`, which 10_state R52 says it writes. -/

namespace Sys2Proof.Machine

/-- The REQB/WUPB class: first byte `0x05` and length 5 (R263). -/
def isReqb (f : FrameRecord) : Bool := f.payload.head? == some 0x05 && f.payload.length == 5

/-- Step 1 (R261). -/
def reloadWaiting (f : FrameRecord) (s : State) : State :=
  if f.frameType = .pollFrame then
    { s with frame := { s.frame with frameWaitingTime := s.protocol.frameWaitingTime } }
  else s

/-- Step 2 on the registers (R263, R264). -/
def applyClass (f : FrameRecord) (s : State) : State :=
  if isReqb f then
    { s with
      protocol := protocolDefaults s.sampleTimeUnit
      frame := { s.frame with
        frameGuardTime := toSamples s.sampleTimeUnit (128 * 7)
        frameWaitingTime := toSamples s.sampleTimeUnit (128 * 18)
        lastCommand := 0x05 }
      chainedFlags := 0 }
  else s

/-- Steps 2 and 3 on the record: phase, `CrcError`, and the chained flags as step 2 leaves them (R263 to R265). -/
def classifiedRecord (f : FrameRecord) (chained : Byte) : FrameRecord :=
  { f with
    phase := if isReqb f then .selectionFrame else .applicationFrame
    flags := (if crcCheck f.payload then f.flags else f.flags ||| flagCrcError) ||| chained }

/-- Step 4 (R266). -/
def openListenWindow (f : FrameRecord) (s : State) : State :=
  if f.frameType = .pollFrame then
    let dly := toTime (paramsOf s.activeRate s).symbolDelayDetect
    { s with frame := { s.frame with
      guardEnd := s.frame.frameEnd + toTime s.frame.frameGuardTime + dly
      waitingEnd := s.frame.frameEnd + toTime s.frame.frameWaitingTime + dly
      frameType := .listenFrame } }
  else s

/-- Step 5 (R267). -/
def closeListenFrame (f : FrameRecord) (s : State) : State :=
  if f.frameType = .listenFrame then
    { s with frame := { s.frame with frameType := .noFrame, lastCommand := 0 } }
  else s

/-- Step 6 (R268). -/
def recordFrameEnd (s : State) : State :=
  { s with frame := { s.frame with lastFrameEnd := s.frame.frameEnd, frameStart := 0, frameEnd := 0 } }

/-- `CLS(rec)` (R261). -/
def classify (f : FrameRecord) (s : State) : State :=
  let s2 := applyClass f (reloadWaiting f s)
  let rec' := classifiedRecord f s2.chainedFlags
  { recordFrameEnd (closeListenFrame f (openListenWindow f s2)) with frameOut := rec' }

/-- `CLS` (R261). -/
def execCls (f : FrameRecord) (s : State) : Result := .next (classify f s)

end Sys2Proof.Machine
end

