-- ==== Sys2Proof/Machine/Framer.lean ====
section
/-! DEFINITION. Family bit_byte_framer (44_bit_byte_framer): `FSTART`, `FDATA`, `FPUSH`, the terminators `FEOF`, `FSERR`,
`FTRUNC` and their tail `FTERM`, `FIN`; and `RSTM`, with which a frame ends (47_reset_and_dispatch R294, R295). -/

namespace Sys2Proof.Machine

/-- The record `FIN` builds before it is classified (R245). Its `phase` is `CLS`'s to set. -/
def builtRecord (trunc : Bool) (s : State) : FrameRecord where
  tech := .nfcB
  frameType := .pollFrame
  phase := .carrierFrame
  flags := if trunc then flagTruncated else 0
  rate := s.frame.symbolRate
  sampleStart := s.frame.frameStart
  sampleEnd := s.symbol.endAt
  timeStart := wallTime s.frame.frameStart s.sampleRate
  timeEnd := wallTime s.symbol.endAt s.sampleRate
  payload := payload s

/-- `FIN(trunc)` (R245): finalise, classify, publish (47_reset_and_dispatch R294). -/
def finalise (trunc : Bool) (s : State) : Result :=
  if s.stream.bytes.toNat ≤ bufferCells then
    let s1 := { s with frame := { s.frame with frameEnd := s.symbol.endAt } }
    .next { classify (builtRecord trunc s) s1 with frameValid := true }
  else .fault .noBufferCell

/-- `FTERM(trunc)` (R243). -/
def terminate (trunc : Bool) (s : State) : Result :=
  if s.stream.bytes = 0 then .next (resetModulation s)
  else andThen (finalise trunc s) fun s' => .next (resetModulation s')

/-- The accumulator with the symbol's bit at its place (R241, 30_encoding R128). The guard on position 0 is NFCLAB's (R240);
the key never selects `FDATA` there. -/
def shiftedData (s : State) : Byte :=
  if s.stream.bits = 0 then s.stream.data
  else s.stream.data ||| (s.symbol.value.setWidth 8 <<< (s.stream.bits.toNat - 1))

/-- The stop bit: store the byte, clear the accumulator and the position (R242). -/
def pushByte (s : State) : Result :=
  andThen (bufPush s.stream.data s) fun s' =>
    .next { s' with stream := { s'.stream with data := 0, bits := 0 } }

/-! ## The operations -/

/-- `FEOF` (R237). -/
def execFeof (s : State) : Result := terminate false s

/-- `FSERR`, H at the start position (R238). -/
def execFserrStart (s : State) : Result := terminate true s

/-- `FSERR`, L at the stop position with `data ≠ 0` (R238). -/
def execFserrStop (s : State) : Result := terminate true s

/-- `FTRUNC`, buffer full at the start position (R239). -/
def execFtruncStart (s : State) : Result := terminate true s

/-- `FTRUNC`, buffer full at a data position (R239). -/
def execFtruncData (s : State) : Result := terminate true s

/-- `FTRUNC`, buffer full at the stop position (R239). -/
def execFtruncStop (s : State) : Result := terminate true s

/-- `FSTART` (R240). -/
def execFstart (s : State) : Result := .next { s with stream := { s.stream with bits := 1 } }

/-- `FDATA` (R241). -/
def execFdata (s : State) : Result :=
  .next { s with stream := { s.stream with data := shiftedData s, bits := s.stream.bits + 1 } }

/-- `FPUSH` (R242). -/
def execFpush (s : State) : Result := pushByte s

/-- `FTERM` (R243). -/
def execFterm (trunc : Bool) (s : State) : Result := terminate trunc s

/-- `FIN` (R245). -/
def execFin (trunc : Bool) (s : State) : Result := finalise trunc s

/-- `RSTM` (47_reset_and_dispatch R295). -/
def execRstm (s : State) : Result := .next (resetModulation s)

end Sys2Proof.Machine
end

