-- ==== Sys2Proof/Machine/Sof.lean ====
section
/-! DEFINITION. Family sof_state_machine (42_sof_state_machine): `SOFHOLD`, `SOFOVR`, `SOFB`, `SOFI`, `SOFE`, `SOFX`, `SOFABT`,
`SOFCONF`. They run for rate 0 on the state `EDGE(0)` left. In each stage the peak test comes first and may move the
deadline, then the deadline test (R194). -/

namespace Sys2Proof.Machine

/-! ## Shared steps -/

/-- A window closed at both ends holds the current clock (R190, R192). -/
def inSearchWindow (m : ModulationStatus) (t : Time) : Bool :=
  decide (m.searchStartTime ≤ t) && decide (t ≤ m.searchEndTime)

/-- Record an extremum and push the deadline out to `t + span`. -/
def ModulationStatus.recordPeak (m : ModulationStatus) (e : F32) (t : Time) (span : U32) : ModulationStatus :=
  { m with detectorPeek := e, searchPeakTime := t, searchEndTime := t + toTime span }

/-- Go to a stage with the window `[peak + lo·p1 - p2, peak + hi·p1 + p2]` and no peak (R189, R191). -/
def ModulationStatus.openWindow (m : ModulationStatus) (stage : SearchStage) (lo hi : Nat) (p : BitrateParams) :
    ModulationStatus :=
  { m with
    searchStage := stage
    searchStartTime := m.searchPeakTime + BitVec.ofNat 64 lo * toTime p.period1 - toTime p.period2
    searchEndTime := m.searchPeakTime + BitVec.ofNat 64 hi * toTime p.period1 + toTime p.period2
    searchPeakTime := 0
    detectorPeek := F32.zero }

/-- "a peak was seen" (D13). -/
def ModulationStatus.peakSeen (m : ModulationStatus) : Bool := m.searchPeakTime != 0

/-- "t reaches endTime": the equality (D13). -/
def ModulationStatus.atDeadline (m : ModulationStatus) (t : Time) : Bool := t == m.searchEndTime

/-- A SOF operation that confirms nothing returns `NoDetection`. -/
def noDetection (s : State) : State := returning (.detection false) s

/-! ## The stages -/

/-- The peak test of BEGIN (R189): no window bound. -/
def beginPeak (s : State) : ModulationStatus :=
  let m := modOf searchRate s
  if risesAboveFloor searchRate s && modulated searchRate s && F32.gt (signedEdge searchRate s) m.detectorPeek then
    m.recordPeak (signedEdge searchRate s) s.signalClock (paramsOf searchRate s).period4
  else m

/-- The deadline test of BEGIN (R189). -/
def beginDeadline (s : State) (m : ModulationStatus) : ModulationStatus :=
  let p := paramsOf searchRate s
  if m.atDeadline s.signalClock then
    if m.peakSeen then
      ({ m with symbolStartTime := m.searchPeakTime - toTime p.period8 }).openWindow .idleStage 10 11 p
    else { m with searchStartTime := 0, searchEndTime := 0 }
  else m

/-- `SOFB` (R189). -/
def sofBegin (s : State) : State := noDetection (setMod searchRate (beginDeadline s (beginPeak s)) s)

/-- The peak test of IDLE (R191): the minimum, inside the window. -/
def idlePeak (s : State) : ModulationStatus :=
  let m := modOf searchRate s
  if inSearchWindow m s.signalClock && fallsBelowFloor searchRate s && F32.lt (signedEdge searchRate s) m.detectorPeek then
    m.recordPeak (signedEdge searchRate s) s.signalClock (paramsOf searchRate s).period4
  else m

/-- "illegal modulation during the SOF low" (R191). -/
def idleIllegal (s : State) : Bool :=
  !inSearchWindow (modOf searchRate s) s.signalClock && leavesFloor searchRate s

/-- The deadline test of IDLE (R191). -/
def idleDeadline (s : State) (m : ModulationStatus) : State :=
  let s' := setMod searchRate m s
  if m.atDeadline s.signalClock then
    if m.peakSeen then setMod searchRate (m.openWindow .endStage 2 3 (paramsOf searchRate s)) s'
    else sofAbort s'
  else s'

/-- `SOFI` (R191). -/
def sofIdle (s : State) : State :=
  if idleIllegal s then noDetection (sofAbort s) else noDetection (idleDeadline s (idlePeak s))

/-- The peak test of END (R193): as BEGIN's, inside the window, closing deadline `t + p8`. -/
def endPeak (s : State) : ModulationStatus :=
  let m := modOf searchRate s
  if inSearchWindow m s.signalClock && risesAboveFloor searchRate s && modulated searchRate s &&
      F32.gt (signedEdge searchRate s) m.detectorPeek then
    m.recordPeak (signedEdge searchRate s) s.signalClock (paramsOf searchRate s).period8
  else m

/-- `SOFCONF()` (R195). -/
def sofConfirm (s : State) : State :=
  let m := modOf searchRate s
  let p := paramsOf searchRate s
  let s' := setMod searchRate
    { m with symbolEndTime := m.searchPeakTime - toTime p.period8, symbolSyncTime := 0 } s
  { s' with
    frame := { s'.frame with
      frameType := .pollFrame
      symbolRate := p.symbolsPerSecond
      frameStart := m.symbolStartTime - toTime p.symbolDelayDetect
      frameEnd := 0 }
    activeValid := true
    activeRate := .k106
    sofConfirmed := true }

/-- `SOFE` (R193). -/
def sofEnd (s : State) : State :=
  let m := endPeak s
  let s' := setMod searchRate m s
  if m.atDeadline s.signalClock then
    if m.peakSeen then returning (.detection true) (sofConfirm s') else noDetection (sofAbort s')
  else noDetection s'

/-! ## The operations -/

/-- `SOFHOLD` (R186): the search is held as it is. -/
def execSofhold (s : State) : Result := .next (noDetection s)

/-- `SOFOVR` (R187): "the current search is aborted". -/
def execSofovr (s : State) : Result := .next (noDetection (sofAbort s))

/-- `SOFB` (R189). -/
def execSofb (s : State) : Result := .next (sofBegin s)

/-- `SOFI` (R191). -/
def execSofi (s : State) : Result := .next (sofIdle s)

/-- `SOFE` (R193). -/
def execSofe (s : State) : Result := .next (sofEnd s)

/-- `SOFX` (R197): the reserved stage code aborts. -/
def execSofx (s : State) : Result := .next (noDetection (sofAbort s))

/-- `SOFABT` (R188). -/
def execSofabt (s : State) : Result := .next (sofAbort s)

/-- `SOFCONF` (R195). -/
def execSofconf (s : State) : Result := .next (sofConfirm s)

end Sys2Proof.Machine
end

