-- ==== Sys2Proof/Machine/Tracker.lean ====
section
/-! DEFINITION. Family symbol_timing_tracker: `TRK` (43_symbol_tracker R215), one sample, for the rate `activeRate`, on the
state `EDGE(activeRate)` left. -/

namespace Sys2Proof.Machine

/-- Step 2 (R216): inside the armed, open window a larger rectified edge with the sample modulated moves the boundary. -/
def resync (r : Rate) (s : State) : ModulationStatus :=
  let m := modOf r s
  let t := s.signalClock
  if decide (m.searchStartTime < t) && decide (t < m.searchEndTime) &&
      F32.gt (rectifiedEdge r s) m.detectorPeek && modulated r s then
    { m with
      detectorPeek := rectifiedEdge r s
      symbolEndTime := t - toTime (paramsOf r s).period8
      symbolSyncTime := 0 }
  else m

/-- Step 3 (R217): "whenever `symbolSyncTime == 0`" predict the next symbol. -/
def predict (p : BitrateParams) (m : ModulationStatus) : ModulationStatus :=
  if m.symbolSyncTime = 0 then
    { m with
      symbolStartTime := m.symbolEndTime
      symbolEndTime := m.symbolEndTime + toTime p.period1
      symbolSyncTime := m.symbolEndTime + toTime p.period2 }
  else m

/-- The symbol a decision gives (R218, R219). -/
def decidedSymbol (low : Bool) (p : BitrateParams) (m : ModulationStatus) : SymbolStatus :=
  let dly := toTime p.symbolDelayDetect
  { pattern := if low then .patternL else .patternH
    value := if low then 0 else 1
    startAt := m.symbolStartTime - dly
    endAt := m.symbolEndTime - dly
    length := (m.symbolEndTime - dly) - (m.symbolStartTime - dly) }

/-- A decision arms the next re-sync window (R218). -/
def armWindow (p : BitrateParams) (m : ModulationStatus) : ModulationStatus :=
  { m with
    searchStartTime := m.symbolEndTime - toTime p.period4
    searchEndTime := m.symbolEndTime + toTime p.period4
    symbolSyncTime := 0
    detectorPeek := F32.zero }

/-- The registers of the tracker when it comes to step 4. -/
def beforeDecision (r : Rate) (s : State) : ModulationStatus := predict (paramsOf r s) (resync r s)

/-- Step 4's test (R218): `t == symbolSyncTime`. -/
def decides (r : Rate) (s : State) : Bool := s.signalClock == (beforeDecision r s).symbolSyncTime

/-- `TRK` for a rate (R215). -/
def trackRate (r : Rate) (s : State) : State :=
  let p := paramsOf r s
  let m := beforeDecision r s
  if decides r s then
    let sym := decidedSymbol (modulated r s) p m
    returning (.symbol (some sym.pattern)) { setMod r (armWindow p m) s with symbol := sym }
  else returning (.symbol none) (setMod r m s)

/-- `TRK`: "for the rate `r = activeRate`" (43_symbol_tracker, head). -/
def track (s : State) : State := trackRate s.activeRate s

/-- Does this `TRK` produce a symbol? -/
def producesSymbol (s : State) : Bool := decides s.activeRate s

/-- `TRK` (R215); the framer that follows a symbol is `SMP`'s (R220). -/
def execTrk (s : State) : Result := .next (track s)

end Sys2Proof.Machine
end

