-- ==== Sys2Proof/Machine/Sample.lean ====
section
/-! DEFINITION. The sample step (47_reset_and_dispatch): `INGEST`, `SMP`, `LSTN`, and the dispatch on the two keys. -/

namespace Sys2Proof.Machine

/-- `INGEST(s, p)` (20_memory R81): the clock, then the window write at the new clock, then the power average. -/
def ingest (sample power : U32) (s : State) : State :=
  let s1 := { s with signalClock := s.signalClock + 1 }
  let s2 := winWrite s1.signalClock sample s1
  { s2 with powerAverage := F32.ofBits power }

/-- "strobes last one SMP" (47_reset_and_dispatch R291). -/
def clearStrobes (s : State) : State := { s with sofConfirmed := false, frameValid := false }

/-- `LSTN`, the listen hook: "it does nothing and emits nothing" and returns "no frame" (47_reset_and_dispatch R297). -/
def listenHook (s : State) : State := returning .listenNoFrame s

/-- The state that would select `LSTN` (47_reset_and_dispatch R297). No `SMP` of a run starts in it. -/
def selectsListen (s : State) : Bool := !s.activeValid && s.frame.frameType == .listenFrame

/-- Run the SYM row the framer key selected (47_reset_and_dispatch R292). -/
def runSym (op : SymOp) (s : State) : Result :=
  match op with
  | .feof => execFeof s
  | .fserrStart => execFserrStart s
  | .fserrStop => execFserrStop s
  | .ftruncStart => execFtruncStart s
  | .ftruncData => execFtruncData s
  | .ftruncStop => execFtruncStop s
  | .fstart => execFstart s
  | .fdata => execFdata s
  | .fpush => execFpush s

/-- `TRK`, and the framer if it produced a symbol (43_symbol_tracker R220). -/
def trackAndFrame (s : State) : Result :=
  andThen (execTrk s) fun s' => if producesSymbol s then runSym (decodeSym (symKey s')) s' else .next s'

/-- Run the SEQ operation the sequencing key selected (47_reset_and_dispatch R292). -/
def runSeq (op : SeqOp) (s : State) : Result :=
  match op with
  | .sofhold => execSofhold s
  | .sofovr => execSofovr s
  | .sofb => execSofb s
  | .sofi => execSofi s
  | .sofe => execSofe s
  | .sofx => execSofx s
  | .trk => trackAndFrame s

/-- The core part of a sample step, after `INGEST` (47_reset_and_dispatch R291). -/
def coreStep (s : State) : Result :=
  let r := stepRate s
  let s' := edgeOp r s
  if selectsListen s' then .next (listenHook s') else runSeq (decodeSeq (seqKey r s')) s'

/-- `SMP s, p` (47_reset_and_dispatch R291). A command returns nothing: the model's `returned` is cleared at its end. -/
def execSmp (sample power : U32) (s : State) : Result :=
  let s1 := clearStrobes (ingest sample power s)
  if s1.configured && !s1.configError then
    andThen (coreStep s1) fun s' => .next (returning .nothing s')
  else .next s1

/-- `INGEST` (20_memory R81). -/
def execIngest (sample power : U32) (s : State) : Result := .next (ingest sample power s)

/-- `LSTN` (47_reset_and_dispatch R297). -/
def execLstn (s : State) : Result := .next (listenHook s)

end Sys2Proof.Machine
end

