-- ==== Sys2Proof/Machine/Dispatch.lean ====
section
/-! DEFINITION. One arm per operation: its meaning. -/

namespace Sys2Proof.Machine

def exec (i : Instr) (s : State) : Host.Outcome State Fault Refusal :=
  match i with
  | .nop => Sys2Proof.Machine.execNop s
  | .rst => Sys2Proof.Machine.execRst s
  | .thr min max => Sys2Proof.Machine.execThr min max s
  | .cfg rate => Sys2Proof.Machine.execCfg rate s
  | .smp sample power => Sys2Proof.Machine.execSmp sample power s
  | .rsv5 => Sys2Proof.Machine.execRsv5 s
  | .rsv6 => Sys2Proof.Machine.execRsv6 s
  | .rsv7 => Sys2Proof.Machine.execRsv7 s
  | .sofhold => Sys2Proof.Machine.execSofhold s
  | .sofovr => Sys2Proof.Machine.execSofovr s
  | .sofb => Sys2Proof.Machine.execSofb s
  | .sofi => Sys2Proof.Machine.execSofi s
  | .sofe => Sys2Proof.Machine.execSofe s
  | .sofx => Sys2Proof.Machine.execSofx s
  | .trk => Sys2Proof.Machine.execTrk s
  | .feof => Sys2Proof.Machine.execFeof s
  | .fserrStart => Sys2Proof.Machine.execFserrStart s
  | .fserrStop => Sys2Proof.Machine.execFserrStop s
  | .ftruncStart => Sys2Proof.Machine.execFtruncStart s
  | .ftruncData => Sys2Proof.Machine.execFtruncData s
  | .ftruncStop => Sys2Proof.Machine.execFtruncStop s
  | .fstart => Sys2Proof.Machine.execFstart s
  | .fdata => Sys2Proof.Machine.execFdata s
  | .fpush => Sys2Proof.Machine.execFpush s
  | .ingest sample power => Sys2Proof.Machine.execIngest sample power s
  | .edge r => Sys2Proof.Machine.execEdge r s
  | .sofabt => Sys2Proof.Machine.execSofabt s
  | .sofconf => Sys2Proof.Machine.execSofconf s
  | .fterm trunc => Sys2Proof.Machine.execFterm trunc s
  | .fin trunc => Sys2Proof.Machine.execFin trunc s
  | .cls frame => Sys2Proof.Machine.execCls frame s
  | .crc frame => Sys2Proof.Machine.execCrc frame s
  | .rstm => Sys2Proof.Machine.execRstm s
  | .lstn => Sys2Proof.Machine.execLstn s

end Sys2Proof.Machine
end

