-- ==== Sys2Proof/Machine/Fetch.lean ====
section
/-! DEFINITION. Where an instruction comes from. The block fetches nothing (10_state R53): the host presents command words on
the command port (30_encoding R110), and the block selects SEQ and SYM operations itself, by a key it forms from its state
and the sample (R115, R116). `takeCommand` is the port; `presentCode` sets up a state whose next step runs a given word. -/

namespace Sys2Proof.Machine

/-- Take the next command off the port, with the pin at the level it has at that command. -/
def takeCommand (s : State) : Option (Instr × State) :=
  match s.port with
  | [] => none
  | c :: rest => some (decodeCmd c.word, { s with port := rest, powerLevelThreshold := c.pin })

/-- Present a command word as the next one, the pin as it is. -/
def presentCommand (w : BitVec 67) (s : State) : State := { s with port := ⟨w, s.powerLevelThreshold⟩ :: s.port }

/-- Present `SMP sample, power` with the pin at `pin`. -/
def presentSample (sample power : U32) (pin : F32) (s : State) : State :=
  { s with port := ⟨cmdWord 0b100 sample power, pin⟩ :: s.port }

/-- What every selection of a key needs: a configured block at rate 0 with the reset thresholds, whose depth is that of the
sample just taken. -/
def readyForKeys (s : State) : State :=
  { s with
    configured := true
    configError := false
    minimumModulationThreshold := literalTenth
    maximumModulationThreshold := literalHalf
    activeRate := .k106
    params := { s.params with k106 := { s.params.k106 with offsetSignalIndex := 0 } } }

/-- The search stage of a code (30_encoding R131). -/
def stageOfCode (c : BitVec 2) : SearchStage :=
  match c.toNat with
  | 0 => .beginStage
  | 1 => .idleStage
  | 2 => .endStage
  | _ => .reservedStage

/-- A state whose next step is an `SMP` that forms this SEQ key: `a` and `st` are set in the state; `g` by the pin, 0.5 or
1.0 against the power 1.0; `o` by the sample, 0.25 (depth 0.75) or 1.0 (depth 0) against the maximum threshold 0.5.
With `a = 1` no symbol is due at that sample. -/
def presentSeqKey (k : BitVec 5) (s : State) : State :=
  let a := k.getLsbD 4
  let s1 := readyForKeys s
  let m := { s1.mods.k106 with
    searchStage := stageOfCode (k.extractLsb' 0 2)
    symbolSyncTime := s.signalClock + 2 }
  let s2 := { s1 with
    activeValid := a
    frame := { s1.frame with frameType := if a then .pollFrame else .noFrame }
    mods := { s1.mods with k106 := m } }
  presentSample (if k.getLsbD 2 then 0x3E800000 else 0x3F800000) 0x3F800000
    (F32.ofBits (if k.getLsbD 3 then 0x3F000000 else 0x3F800000)) s2

/-- A state whose next step is an `SMP` whose `TRK` produces a symbol and forms this SYM key: the symbol is due at the next
clock, no re-sync window is open, the sample is 1.0 (H) or 0.75 (L, depth 0.25) against the power 1.0, and the framer's
registers are as the key says. `z` and `n` are never both 1 (30_encoding R116); of such a key the row's own bit is kept. -/
def presentSymKey (k : BitVec 5) (s : State) : State :=
  let p := k.getLsbD 4
  let z := k.getLsbD 3
  let n := k.getLsbD 2
  let s1 := readyForKeys s
  let m := { s1.mods.k106 with
    searchStartTime := 0
    searchEndTime := 0
    symbolSyncTime := s.signalClock + 1 }
  let s2 := { s1 with
    activeValid := true
    frame := { s1.frame with frameType := .pollFrame }
    protocol := { s1.protocol with maxFrameSize := 256 }
    stream := { s1.stream with
      bits := if z && (p || !n) then 0 else if n then 9 else 1
      data := if k.getLsbD 1 then 0 else 1
      bytes := if k.getLsbD 0 then 256 else 0 }
    mods := { s1.mods with k106 := m } }
  presentSample (if p then 0x3F800000 else 0x3F400000) 0x3F800000 (F32.ofBits 0x3F000000) s2

/-- A state whose next step runs the instruction of this word. -/
def presentCode (c : Code) (s : State) : State :=
  match c with
  | .cmd w => presentCommand w s
  | .seq k => presentSeqKey k s
  | .sym k => presentSymKey k s

end Sys2Proof.Machine
end

