-- ==== Sys2Proof/Machine/Step.lean ====
section
/-! DEFINITION. One step: the block takes one command and runs it to its end (20_memory R95). With no command presented nothing
happens (20_memory R86). -/

namespace Sys2Proof.Machine

def step (s : State) : Host.Outcome State Fault Refusal :=
  match takeCommand s with
  | none => .next s
  | some (i, s') => exec i s'

/-- The state whose next step runs the instruction of an opcode-table number (notes/assumptions/17 and 18); a number that names
no word leaves the state as it is. -/
def State.withFetchWord (s : State) (nbits w : Nat) : State :=
  match tableCode nbits w with
  | none => s
  | some c => presentCode c s

end Sys2Proof.Machine
end

