-- ==== Sys2Proof/Safety.lean ====
section
/-! DEFINITION. What a good state and a safe step are: the ranges 10_state R57 and R44, R51, 20_memory R90, 30_encoding R128 and
93_implementation_defined I9 give for every reachable state, in the terms the statements use. -/

namespace Sys2Proof.Machine

/-- The window is in canonical form and lists only its `N` cells (20_memory R80). -/
abbrev windowOk (s : State) : Prop := s.signalData.wf ∧ s.signalData.below (windowLength s)

/-- The stream buffer is in canonical form and lists only its 256 cells (20_memory R80). -/
abbrev bufferOk (st : StreamStatus) : Prop := st.buffer.wf ∧ st.buffer.below bufferCells

/-- `bits ∈ [0, 9]`, `bytes ≤ 256` (10_state R57); the accumulator holds only the data bits seen so far (30_encoding R128);
a full buffer is met at the start position only (44_bit_byte_framer R236). -/
abbrev framerOk (st : StreamStatus) : Prop :=
  st.bits.toNat ≤ 9 ∧ st.bytes.toNat ≤ 256 ∧ st.data.toNat < 2 ^ (st.bits.toNat - 1) ∧
    (st.bytes.toNat = 256 → st.bits = 0)

/-- "`maxFrameSize` is 256 whenever `configured = 1`" (10_state R49); a failed block is not configured (60_exceptions R311). -/
abbrev configOk (s : State) : Prop :=
  s.configured = true → s.protocol.maxFrameSize = 256 ∧ s.configError = false

/-- Stage code 3 is unreachable (10_state R41); the registers of rates 1 and 2 stay at reset (93_implementation_defined I9). -/
abbrev searchOk (s : State) : Prop :=
  s.mods.k106.searchStage ≠ .reservedStage ∧ s.mods.k212 = ModulationStatus.reset ∧ s.mods.k424 = ModulationStatus.reset

/-- `activeRate` is 0; `activeValid = 1` implies `frameType = 1` at every `SMP` boundary (10_state R50, R57); a searching block
expects no frame (47_reset_and_dispatch R297). -/
abbrev selectorOk (s : State) : Prop :=
  s.activeRate = .k106 ∧ s.frame.frameType = (if s.activeValid then FrameType.pollFrame else FrameType.noFrame)

/-- `chainedFlags` is 0 (10_state R51); no micro-operation is in progress between commands (notes/assumptions/9). -/
abbrev quietOk (s : State) : Prop := s.chainedFlags = 0 ∧ s.returned = .nothing

/-- The invariant of the block at a command boundary. -/
abbrev Inv (s : State) : Prop :=
  windowOk s ∧ bufferOk s.stream ∧ framerOk s.stream ∧ configOk s ∧ searchOk s ∧ selectorOk s ∧ quietOk s

/-- A step is safe when it gives a next state. -/
def Safe (r : Result) : Prop := ∃ s, r = .next s

end Sys2Proof.Machine
end

