-- ==== Sys2Proof/Certificates/Slice0/Obligations.lean ====
section
/-! DEFINITION. The statements for the provers, in the order of the spec's files. Where a statement's next state is written as
`{ s with … }`, everything not named is unchanged: that is the statement's frame. The fields `port`, `returned` and `windowBits` are
the model's own, and so is every clause about them (notes/assumptions/1, 9 and 3). -/

open Sys2Proof Sys2Proof.Machine

/-! ## Words used by several statements -/

/-- The values 10_state R58 gives after `RST` and at power-on. S3 is a pin, S39 and S63 are unspecified: none is named here. -/
def Sys2Proof.Claims.HasResetValues (t : State) : Prop :=
  t.signalClock = 0 ∧ (∀ i, winRead t i = F32.ofBits 0) ∧ t.powerAverage = F32.ofBits 0 ∧
  t.sampleRate = 0 ∧ t.sampleTimeUnit = F32.ofBits 0 ∧
  t.minimumModulationThreshold = F32.ofBits 0x3DCCCCCD ∧ t.maximumModulationThreshold = F32.ofBits 0x3F000000 ∧
  t.configured = false ∧ t.configError = false ∧
  (∀ r, paramsOf r t =
    { symbolsPerSecond := 0, period1 := 0, period2 := 0, period4 := 0, period8 := 0, symbolDelayDetect := 0,
      offsetSignalIndex := 0, offsetPeriod1Index := 0, offsetFilterIndex := 0, offsetDetectIndex := 0,
      weightA := F32.ofBits 0, weightB := F32.ofBits 0 }) ∧
  (∀ r, modOf r t =
    { filterIntegrate := F32.ofBits 0, detectIntegrate := F32.ofBits 0, phaseIntegrate := F32.ofBits 0,
      searchStage := .beginStage, searchStartTime := 0, searchEndTime := 0, searchPeakTime := 0,
      detectorPeek := F32.ofBits 0, searchDeepValue := F32.ofBits 0,
      symbolStartTime := 0, symbolEndTime := 0, symbolSyncTime := 0 }) ∧
  t.symbol = { pattern := .invalid, value := 0, startAt := 0, endAt := 0, length := 0 } ∧
  t.stream.bytes = 0 ∧ t.stream.data = 0 ∧ t.stream.bits = 0 ∧
  t.frame =
    { frameType := .noFrame, frameStart := 0, frameEnd := 0, guardEnd := 0, waitingEnd := 0, lastCommand := 0,
      frameGuardTime := 0, frameWaitingTime := 0, startUpGuardTime := 0, requestGuardTime := 0, symbolRate := 0,
      lastFrameEnd := 0 } ∧
  t.protocol =
    { maxFrameSize := 0, frameGuardTime := 0, frameWaitingTime := 0, startUpGuardTime := 0, requestGuardTime := 0 } ∧
  t.activeValid = false ∧ t.activeRate = .k106 ∧ t.chainedFlags = 0 ∧ t.sofConfirmed = false ∧ t.frameValid = false

/-- `sampleTimeUnit` of a sample rate: `fdiv(F(rate), F(13560000))` (40_configuration R152). -/
def Sys2Proof.Claims.unitOf (rate : U32) : F32 := fdiv (F32.ofNat rate.toNat) (F32.ofNat 13560000)

/-- `RoundNearest(fmul(sampleTimeUnit, F(c)))` (40_configuration R152, R155). -/
def Sys2Proof.Claims.samples (rate : U32) (c : Nat) : Nat := roundNearest (fmul (Claims.unitOf rate) (F32.ofNat c))

/-- 40_configuration R158: `period1[r] < 8` for some r, or `N ≤ maxDelay` (R157), the delays being cumulative (R153). -/
def Sys2Proof.Claims.RateRejected (n : Nat) (rate : U32) : Prop :=
  Claims.samples rate 128 < 8 ∨ Claims.samples rate 64 < 8 ∨ Claims.samples rate 32 < 8 ∨
  n ≤ Claims.samples rate 128 ∨
  n ≤ Claims.samples rate 128 + Claims.samples rate 64 ∨
  n ≤ Claims.samples rate 128 + Claims.samples rate 64 + Claims.samples rate 32

/-- The table row 40_configuration R152 to R154 give a rate with `cycles` carrier cycles per symbol and delay `dl`. -/
def Sys2Proof.Claims.tableRow (n : Nat) (rate : U32) (cycles dl : Nat) (old : BitrateParams) : BitrateParams :=
  { old with
    symbolsPerSecond := BitVec.ofNat 32 (13560000 / cycles)
    period1 := BitVec.ofNat 32 (Claims.samples rate cycles)
    period2 := BitVec.ofNat 32 (Claims.samples rate (cycles / 2))
    period4 := BitVec.ofNat 32 (Claims.samples rate (cycles / 4))
    period8 := BitVec.ofNat 32 (Claims.samples rate (cycles / 8))
    symbolDelayDetect := BitVec.ofNat 32 dl
    offsetSignalIndex := BitVec.ofNat 32 (n - dl)
    offsetPeriod1Index := BitVec.ofNat 32 (n - dl - Claims.samples rate cycles)
    offsetFilterIndex := BitVec.ofNat 32 (n - dl - Claims.samples rate (cycles / 4))
    offsetDetectIndex := BitVec.ofNat 32 (n - dl - Claims.samples rate (cycles / 8)) }

/-- One rate's registers after `RSTM` (47_reset_and_dispatch R295). -/
def Sys2Proof.Claims.clearedTimes (m : ModulationStatus) : ModulationStatus :=
  { m with
    searchStage := .beginStage, searchStartTime := 0, searchEndTime := 0, searchPeakTime := 0,
    detectorPeek := F32.ofBits 0, symbolStartTime := 0, symbolEndTime := 0, symbolSyncTime := 0 }

/-- The state after `RSTM` (47_reset_and_dispatch R295), all else as before (R296). -/
def Sys2Proof.Claims.afterRstm (s : State) : State :=
  { s with
    mods := ⟨Claims.clearedTimes s.mods.k106, Claims.clearedTimes s.mods.k212, Claims.clearedTimes s.mods.k424⟩
    symbol := { pattern := .invalid, value := 0, startAt := 0, endAt := 0, length := 0 }
    stream := { s.stream with bytes := 0, data := 0, bits := 0 }
    frame := { s.frame with frameType := .noFrame, frameStart := 0, frameEnd := 0 }
    activeValid := false
    activeRate := .k106 }

/-- The state after `SOFABT` (42_sof_state_machine R188): "It writes rate 0 only". -/
def Sys2Proof.Claims.afterAbort (s : State) : State :=
  { s with mods := { s.mods with k106 := { s.mods.k106 with
      searchStage := .beginStage, searchStartTime := 0, searchEndTime := 0, searchPeakTime := 0,
      detectorPeek := F32.ofBits 0, symbolStartTime := 0, symbolEndTime := 0 } } }

/-- The state with the rate-0 detector registers `m` and the value `x` returned. -/
def Sys2Proof.Claims.withSearch (s : State) (m : ModulationStatus) (confirmed : Bool) : State :=
  { s with mods := { s.mods with k106 := m }, returned := .detection confirmed }

/-- The number a magnitude pattern with `frac` fraction bits denotes, in units of the least positive number of its format. -/
def Sys2Proof.Claims.unitsOf (frac mag : Nat) : Nat :=
  if mag / 2 ^ frac = 0 then mag else (2 ^ frac + mag % 2 ^ frac) * 2 ^ (mag / 2 ^ frac - 1)

/-- How far the pattern `mag` is from `num / den` units, times `den`. -/
def Sys2Proof.Claims.distance (frac num den mag : Nat) : Nat :=
  (((Claims.unitsOf frac mag * den : Nat) : Int) - num).natAbs

/-- `mag` is a pattern nearest to `num / den` units, and of two equally near the even one. The exponent has no upper bound here. -/
def Sys2Proof.Claims.NearestEven (frac num den mag : Nat) : Prop :=
  ∀ j, Claims.distance frac num den mag ≤ Claims.distance frac num den j ∧
    (Claims.distance frac num den mag = Claims.distance frac num den j → j = mag ∨ mag % 2 = 0)

/-- `x` is `± num / den` units of 2^-149 rounded once to NUM: to nearest even, and an infinity from the first pattern that NUM has no
finite number for. -/
def Sys2Proof.Claims.RoundsTo (neg : Bool) (num den : Nat) (x : F32) : Prop :=
  ∃ mag, Claims.NearestEven 23 num den mag ∧
    ((∃ m : Fin 0x7F800000, m.val = mag ∧ x = .finite neg m) ∨ (0x7F800000 ≤ mag ∧ x = .inf neg))

/-- The exact value of a finite number of NUM in units of 2^-149. -/
def Sys2Proof.Claims.exact (neg : Bool) (m : Fin 0x7F800000) : Int :=
  if neg then -(Claims.unitsOf 23 m.val : Int) else Claims.unitsOf 23 m.val

/-- Both integrators are poisoned: each is a NaN or an infinity, and the infinities have one sign (41_edge_depth R178). -/
def Sys2Proof.Claims.Poisoned (m : ModulationStatus) : Prop :=
  ∃ neg, (m.filterIntegrate.isNaN = true ∨ m.filterIntegrate = .inf neg) ∧
    (m.detectIntegrate.isNaN = true ∨ m.detectIntegrate = .inf neg)

/-- `E` and `A` are NaN and every comparison with them is false. -/
def Sys2Proof.Claims.EdgeIsNaN (r : Rate) (t : State) : Prop :=
  (signedEdge r t).isNaN = true ∧ (rectifiedEdge r t).isNaN = true ∧
  ∀ x, F32.gt (signedEdge r t) x = false ∧ F32.lt (signedEdge r t) x = false ∧
    F32.gt (rectifiedEdge r t) x = false ∧ F32.lt (rectifiedEdge r t) x = false

/-- The operations that set the selectors: the SOF detector's confirmation, alone and inside `SMP` (10_state R50). -/
def Sys2Proof.Claims.SetsSelectors (i : Instr) : Prop := i = .sofe ∨ i = .sofconf ∨ ∃ a b, i = .smp a b

/-- The operations that clear the selectors: `RSTM` and what calls it, the rows that run `FTERM`, `CFG` and `RST`
(10_state R50, 47_reset_and_dispatch R295). -/
def Sys2Proof.Claims.ClearsSelectors (i : Instr) : Prop :=
  i = .rst ∨ (∃ rate, i = .cfg rate) ∨ i = .rstm ∨ (∃ trunc, i = .fterm trunc) ∨ i = .feof ∨ i = .fserrStart ∨ i = .fserrStop ∨
  i = .ftruncStart ∨ i = .ftruncData ∨ i = .ftruncStop ∨ ∃ a b, i = .smp a b

/-- A searching block, as every terminator leaves it. -/
def Sys2Proof.Claims.Searches (t : State) : Prop :=
  t.activeValid = false ∧ t.stream.bits = 0 ∧ t.stream.bytes = 0 ∧ t.mods.k106.searchStage = .beginStage

/-! ## 10_state, 70_reset_and_hazards: reset -/

/-- 10_state R58: the values after reset. -/
def Obligations.ResetHasTheSpecsValues : Prop := Claims.HasResetValues State.reset

/-- 40_configuration R150: `RST` brings every piece of state to its reset value, whatever the state. That the pin, the parameter
`N` and the commands not yet taken stay is the model's choice: no state of the block (notes/assumptions/1 to 3). -/
def Obligations.RstRestoresEveryResetValue : Prop :=
  ∀ s : State, ∃ t, exec .rst s = .next t ∧ Claims.HasResetValues t ∧
    t.powerLevelThreshold = s.powerLevelThreshold ∧ t.windowBits = s.windowBits ∧ t.port = s.port

/-- The invariant of 10_state R57 and its companions holds after reset. -/
def Obligations.InvariantHoldsAtReset : Prop := Inv State.reset

/-! ## 30_encoding -/

/-- Words written out from 30_encoding R110, R111 (95_test_vectors B1) and keys of R115, R116. -/
def Obligations.SpecWordsDecodeToTheirOperations : Prop :=
  decode (.cmd 0x00000000000000000) = .nop ∧
  decode (.cmd 0x00000000000000001) = .rst ∧
  decode (.cmd 0x1F8CCCCD1EA66666A) = .thr 0x3D4CCCCD 0x3F19999A ∧
  decode (.cmd 0x00000000006774603) = .cfg 13560000 ∧
  decode (.cmd 0x1FC000001FA000004) = .smp 0x3F400000 0x3F800000 ∧
  decode (.cmd 0x000000E40000003DD) = .rsv5 ∧
  decode (.seq 0b01001) = .sofi ∧ decode (.seq 0b10111) = .trk ∧ decode (.seq 0b01101) = .sofovr ∧
  decode (.sym 0b00110) = .feof ∧ decode (.sym 0b11011) = .fserrStart ∧ decode (.sym 0b10100) = .fpush

/-- 30_encoding R115, R116: every key hits exactly one row of its table, and the decoder gives that row's operation. -/
def Obligations.EveryKeySelectsExactlyOneRow : Prop :=
  ∀ k : BitVec 5,
    (seqRows.filter fun row => row.hits k).map (fun row => row.op) = [decodeSeq k] ∧
    (symRows.filter fun row => row.hits k).map (fun row => row.op) = [decodeSym k]

/-- Decoding an encoded well-formed operation gives it back; every word decodes to an operation whose own word decodes to the
same; only format CALL has no word (30_encoding R117). -/
def Obligations.DecodeAndEncodeAgree : Prop :=
  (∀ (i : Instr) (c : Code), i.wf = true → encode i = some c → decode c = i) ∧
  (∀ c : Code, ∃ c', encode (decode c) = some c' ∧ decode c' = decode c) ∧
  (∀ i : Instr, encode i = none ↔
    ((∃ a b, i = .ingest a b) ∨ (∃ r, i = .edge r) ∨ i = .sofabt ∨ i = .sofconf ∨ (∃ b, i = .fterm b) ∨
      (∃ b, i = .fin b) ∨ (∃ f, i = .cls f) ∨ (∃ f, i = .crc f) ∨ i = .rstm ∨ i = .lstn))

/-! ## 47_reset_and_dispatch, 20_memory: a step, the sample -/

/-- A step takes one command off the port and is its execution, with the pin at that command's level; with no command presented
nothing changes. That commands run one at a time and each to its end is 20_memory R95 and 30_encoding R110, and that nothing happens
without one is R86. The list `port`, and that each command carries the level of the pin, are the model's choice
(notes/assumptions/1 and 2). -/
def Obligations.StepRunsTheCommandOnThePort : Prop :=
  (∀ s : State, s.port = [] → step s = .next s) ∧
  (∀ (s : State) (c : PortCommand) (rest : List PortCommand) (i : Instr), s.port = c :: rest →
    decode (.cmd c.word) = i → step s = exec i { s with port := rest, powerLevelThreshold := c.pin })

/-- A command word presented by `withFetchWord` is the very next one to run, from every state (the model's choice of a port:
notes/assumptions/1, 17 and 18). -/
def Obligations.PresentedCommandRunsNext : Prop :=
  ∀ (s : State) (nbits w : Nat), (8 < nbits ∨ w < 8 ∨ 32 ≤ w) → w < 2 ^ 67 →
    decodeTableWord nbits w = some (decode (.cmd (BitVec.ofNat 67 w))) ∧
    step (s.withFetchWord nbits w) = exec (decode (.cmd (BitVec.ofNat 67 w))) s

/-- 20_memory R81, R82: `INGEST` adds 1 to the clock, stores the sample in cell `t & (N-1)` of the new clock, latches the
power average, and changes nothing else: every other cell reads as before. -/
def Obligations.IngestStoresTheSampleOfTheNewClock : Prop :=
  ∀ (s : State) (a b : U32), s.signalData.wf → ∃ t, exec (.ingest a b) s = .next t ∧
    t = { s with signalClock := s.signalClock + 1, powerAverage := F32.ofBits b, signalData := t.signalData } ∧
    t.signalData.wf ∧
    (∀ cell, t.signalData.read cell =
      if cell = (s.signalClock + 1).toNat % 2 ^ s.windowBits.val then a else s.signalData.read cell)

/-- 47_reset_and_dispatch R291: an unconfigured or failed block only ingests, and clears the strobes. -/
def Obligations.UnconfiguredSmpOnlyIngests : Prop :=
  ∀ (s : State) (a b : U32), (s.configured = false ∨ s.configError = true) → ∃ u,
    exec (.ingest a b) s = .next u ∧ exec (.smp a b) s = .next { u with sofConfirmed := false, frameValid := false }

/-- 47_reset_and_dispatch R291, R292: while searching, `SMP` is `INGEST`, the strobes' clearing, `EDGE(0)`, and the operation
of the key it then forms. -/
def Obligations.SearchingSmpRunsTheKeyedOperation : Prop :=
  ∀ (s : State) (a b : U32), s.configured = true → s.configError = false → s.activeValid = false →
    s.frame.frameType ≠ .listenFrame → ∃ u v t,
    exec (.ingest a b) s = .next u ∧
    exec (.edge .k106) { u with sofConfirmed := false, frameValid := false } = .next v ∧
    exec (decodeSeq (packKey false (F32.gt v.powerAverage v.powerLevelThreshold)
      (F32.gt (depth .k106 v) v.maximumModulationThreshold)
      (s.mods.k106.searchStage.code.getLsbD 1) (s.mods.k106.searchStage.code.getLsbD 0))).toInstr v = .next t ∧
    exec (.smp a b) s = .next { t with returned := .nothing }

/-- 47_reset_and_dispatch R291, R292, 43_symbol_tracker R220: while tracking, `SMP` is `INGEST`, the strobes' clearing, `EDGE`
and `TRK` of the active rate, and, if `TRK` produced a symbol, the row of the framer key. The two hypotheses on the buffer
hold in every reachable state (10_state R57). -/
def Obligations.TrackingSmpTracksAndFrames : Prop :=
  ∀ (s : State) (a b : U32), s.configured = true → s.configError = false → s.activeValid = true →
    s.stream.bytes.toNat ≤ 256 → s.protocol.maxFrameSize = 256 → ∃ u v w,
    exec (.ingest a b) s = .next u ∧
    exec (.edge s.activeRate) { u with sofConfirmed := false, frameValid := false } = .next v ∧
    exec .trk v = .next w ∧
    (w.returned = .symbol none → exec (.smp a b) s = .next { w with returned := .nothing }) ∧
    (w.returned ≠ .symbol none → ∃ t,
      exec (decodeSym (packKey (w.symbol.pattern == .patternH) (w.stream.bits == 0) (w.stream.bits == 9)
        (w.stream.data == 0) (w.stream.bytes == w.protocol.maxFrameSize))).toInstr w = .next t ∧
      exec (.smp a b) s = .next { t with returned := .nothing })

/-- 47_reset_and_dispatch R297: the listen hook does nothing and emits nothing. The second clause is the model's reading
(notes/assumptions/11, DEDUCED): an `SMP` in the state R297 names (no run reaches one) ingests, clears the strobes and runs `EDGE`, and
the hook stands in place of the operation that the key of 30_encoding R115 and the tree of R292 would select. -/
def Obligations.ListenHookDoesNothing : Prop :=
  (∀ s : State, exec .lstn s = .next { s with returned := .listenNoFrame }) ∧
  (∀ (s : State) (a b : U32), s.configured = true → s.configError = false → s.activeValid = false →
    s.frame.frameType = .listenFrame → ∃ u v,
    exec (.ingest a b) s = .next u ∧
    exec (.edge .k106) { u with sofConfirmed := false, frameValid := false } = .next v ∧
    exec (.smp a b) s = .next { v with returned := .nothing })

/-- 10_state R52, 47_reset_and_dispatch R298: `sofConfirmed` is 1 after exactly those `SMP` that begin to track, and
`frameValid` only after one that ends tracking. -/
def Obligations.StrobesMarkTheirOwnSmp : Prop :=
  ∀ (s t : State) (a b : U32), exec (.smp a b) s = .next t →
    (t.sofConfirmed = true ↔ s.activeValid = false ∧ t.activeValid = true) ∧
    (t.frameValid = true → s.activeValid = true ∧ t.activeValid = false)

/-- 47_reset_and_dispatch R293: the sequencing graph of the search. The reserved stage, which no run reaches, is held or
aborted. -/
def Obligations.SearchStagesFollowTheGraph : Prop :=
  ∀ (s t : State) (a b : U32), exec (.smp a b) s = .next t → s.activeValid = false →
    let old := s.mods.k106.searchStage
    let new := t.mods.k106.searchStage
    (old = .beginStage → new = .beginStage ∨ new = .idleStage) ∧
    (old = .idleStage → new = .idleStage ∨ new = .endStage ∨ new = .beginStage) ∧
    (old = .endStage → new = .endStage ∨ new = .beginStage) ∧
    (old = .reservedStage → new = .reservedStage ∨ new = .beginStage) ∧
    (t.activeValid = true → old = .endStage ∧ new = .endStage)

/-- 47_reset_and_dispatch R295, R296: what `RSTM` clears, and that all else keeps its value. -/
def Obligations.RstmClearsExactlyItsList : Prop := ∀ s : State, exec .rstm s = .next (Claims.afterRstm s)

/-! ## 40_configuration, 60_exceptions -/

/-- 40_configuration R159, 30_encoding R114: `NOP` and the reserved codes change nothing, whatever their operand bits. -/
def Obligations.NopAndReservedCodesChangeNothing : Prop :=
  ∀ s : State, exec .nop s = .next s ∧ exec .rsv5 s = .next s ∧ exec .rsv6 s = .next s ∧ exec .rsv7 s = .next s ∧
    ∀ w : BitVec 67, (w.extractLsb' 0 3 = 0b000 ∨ w.extractLsb' 0 3 = 0b101 ∨ w.extractLsb' 0 3 = 0b110 ∨
      w.extractLsb' 0 3 = 0b111) → exec (decode (.cmd w)) s = .next s

/-- 40_configuration R151: `THR` stores both patterns as they are, and is refused after a `ConfigError`. -/
def Obligations.ThrStoresBothThresholds : Prop :=
  ∀ (s : State) (min max : U32),
    (s.configError = true → exec (.thr min max) s = .next s) ∧
    (s.configError = false → exec (.thr min max) s =
      .next { s with
        minimumModulationThreshold := F32.ofBits min
        maximumModulationThreshold := F32.ofBits max })

/-- 60_exceptions R311, 40_configuration R157, R158: the configuration error, its condition and all it writes. -/
def Obligations.CfgRejectsAnImpossibleRate : Prop :=
  ∀ (s : State) (rate : U32), s.configError = false → Claims.RateRejected (2 ^ s.windowBits.val) rate →
    exec (.cfg rate) s = .next { s with configured := false, configError := true }

/-- 40_configuration R152 to R156: a `CFG` that succeeds: the tables, the budgets, what it clears, what it leaves alone. -/
def Obligations.CfgLoadsTheTablesAndClearsTheRest : Prop :=
  ∀ (s : State) (rate : U32), s.configError = false → ¬ Claims.RateRejected (2 ^ s.windowBits.val) rate → ∃ t,
    exec (.cfg rate) s = .next t ∧
    t.params =
      ⟨Claims.tableRow (2 ^ s.windowBits.val) rate 128 0 s.params.k106,
       Claims.tableRow (2 ^ s.windowBits.val) rate 64 (Claims.samples rate 128) s.params.k212,
       Claims.tableRow (2 ^ s.windowBits.val) rate 32 (Claims.samples rate 128 + Claims.samples rate 64) s.params.k424⟩ ∧
    t.protocol =
      { maxFrameSize := 256
        frameGuardTime := BitVec.ofNat 32 (Claims.samples rate 896)
        frameWaitingTime := BitVec.ofNat 32 (Claims.samples rate 65536)
        startUpGuardTime := BitVec.ofNat 32 (Claims.samples rate 4096)
        requestGuardTime := BitVec.ofNat 32 (Claims.samples rate 7000) } ∧
    t.frame =
      { frameType := .noFrame, frameStart := 0, frameEnd := 0, guardEnd := 0, waitingEnd := 0, lastCommand := 0
        frameGuardTime := t.protocol.frameGuardTime, frameWaitingTime := t.protocol.frameWaitingTime
        startUpGuardTime := t.protocol.startUpGuardTime, requestGuardTime := t.protocol.requestGuardTime
        symbolRate := 0, lastFrameEnd := 0 } ∧
    (∀ r, modOf r t = { Claims.clearedTimes (modOf r s) with
      filterIntegrate := F32.ofBits 0, detectIntegrate := F32.ofBits 0, phaseIntegrate := F32.ofBits 0 }) ∧
    t = { s with
      sampleRate := rate, sampleTimeUnit := Claims.unitOf rate, params := t.params, mods := t.mods
      protocol := t.protocol, frame := t.frame
      symbol := { pattern := .invalid, value := 0, startAt := 0, endAt := 0, length := 0 }
      stream := { s.stream with bytes := 0, data := 0, bits := 0 }
      activeValid := false, activeRate := .k106, chainedFlags := 0
      sofConfirmed := false, frameValid := false, configured := true }

/-- 60_exceptions R311: after a `ConfigError` the block is inert until `RST`. -/
def Obligations.ConfigErrorIsFatalUntilRst : Prop :=
  ∀ s : State, s.configError = true →
    (∀ rate, exec (.cfg rate) s = .next s) ∧ (∀ min max, exec (.thr min max) s = .next s) ∧ exec .nop s = .next s ∧
    (∀ a b, ∃ t, exec (.smp a b) s = .next t ∧ t =
      { s with signalClock := t.signalClock, signalData := t.signalData, powerAverage := t.powerAverage
               sofConfirmed := false, frameValid := false }) ∧
    (∃ t, exec .rst s = .next t ∧ t.configError = false)

/-- 40_configuration R158: the first condition of the `ConfigError` test "is … `sampleRate < 3 178 125` Hz". -/
def Obligations.LowestAcceptedSampleRate : Prop :=
  ∀ rate : U32, (Claims.samples rate 128 < 8 ∨ Claims.samples rate 64 < 8 ∨ Claims.samples rate 32 < 8) ↔
    rate.toNat < 3178125

/-- 41_edge_depth R171, 40_configuration R158: after a `CFG` that succeeds no divisor of `EDGE` is zero. -/
def Obligations.ConfiguredDivisorsAreNotZero : Prop :=
  ∀ (s t : State) (rate : U32), exec (.cfg rate) s = .next t → s.configError = false → t.configError = false →
    ∀ r, 2 ≤ (paramsOf r t).period4.toNat ∧ 1 ≤ (paramsOf r t).period8.toNat

/-- 20_memory R84, 40_configuration R154: after a `CFG` that succeeds, the three indices of clock `c` name the cells of the
clocks `c - d`, `c - d - period4` and `c - d - period8`, with `d = symbolDelayDetect`. -/
def Obligations.WindowIndicesReachBackByTheDelay : Prop :=
  ∀ (s t : State) (rate : U32), exec (.cfg rate) s = .next t → s.configError = false → t.configError = false →
    ∀ (r : Rate) (c : Time),
      let p := paramsOf r t
      let d : Time := p.symbolDelayDetect.setWidth 64
      windowCell t (p.offsetSignalIndex.setWidth 64 + c) = windowCell t (c - d) ∧
      windowCell t (p.offsetFilterIndex.setWidth 64 + c) = windowCell t (c - d - p.period4.setWidth 64) ∧
      windowCell t (p.offsetDetectIndex.setWidth 64 + c) = windowCell t (c - d - p.period8.setWidth 64)

/-- 45_protocol_classifier R269: "`ToSamples` is monotone", for every sample rate and the constants of the block. -/
def Obligations.ToSamplesIsMonotone : Prop :=
  ∀ (rate : U32) (c c' : Nat), c ≤ c' → c' ≤ 65536 → Claims.samples rate c ≤ Claims.samples rate c'

/-! ## 00_scope R13: real arithmetic -/

/-- 00_scope R13, R10: every operation of NUM on finite operands is the exact result, rounded once to nearest even and infinite where
it overflows; so are `F(k)` and the literals `K(0.10)`, `K(0.50)`, `K(0.001)`; and a wall time is the exact quotient rounded once to
binary64 (30_encoding R125; that its ties go to even is notes/assumptions/8, DEDUCED). The exact numbers are in units of the least
positive number, 2^-149 and 2^-1074. An exact sum of zero is -0.0 only where both terms are. -/
def Obligations.RoundingIsToNearestEven : Prop :=
  (∀ frac num den : Nat, 1 ≤ frac → 0 < den → Claims.NearestEven frac num den (roundMag frac num den)) ∧
  (∀ (na nb : Bool) (ma mb : Fin 0x7F800000),
    let a := F32.finite na ma
    let b := F32.finite nb mb
    let x := Claims.exact na ma
    let y := Claims.exact nb mb
    Claims.RoundsTo (if x + y = 0 then na && nb else decide (x + y < 0)) (x + y).natAbs 1 (fadd a b) ∧
    Claims.RoundsTo (if x - y = 0 then na && !nb else decide (x - y < 0)) (x - y).natAbs 1 (fsub a b) ∧
    Claims.RoundsTo (na != nb) (x.natAbs * y.natAbs) (2 ^ 149) (fmul a b) ∧
    (mb.val ≠ 0 → Claims.RoundsTo (na != nb) (x.natAbs * 2 ^ 149) y.natAbs (fdiv a b))) ∧
  (∀ k : Nat, Claims.RoundsTo false (k * 2 ^ 149) 1 (F32.ofNat k)) ∧
  Claims.RoundsTo false (2 ^ 149) 10 literalTenth ∧ Claims.RoundsTo false (2 ^ 149) 2 literalHalf ∧
  Claims.RoundsTo false (2 ^ 149) 1000 edgeMin ∧
  (∀ (sample : Time) (rate : U32), rate ≠ 0 →
    Claims.NearestEven 52 (sample.toNat * 2 ^ 1074) rate.toNat (wallTime sample rate).toNat)

/-! ## 41_edge_depth -/

/-- 41_edge_depth R170 to R173: `EDGE(r)` updates the two integrators of rate `r`, returns `(E, A, D)`, and changes nothing
else; and `E`, `A`, `D` are what the operations after it read. -/
def Obligations.EdgeUpdatesIntegratorsAndReturnsTheTriple : Prop :=
  ∀ (s : State) (r : Rate), ∃ t,
    let p := paramsOf r s
    let sd := winRead s (p.offsetSignalIndex.setWidth 64 + s.signalClock)
    let fd := winRead s (p.offsetFilterIndex.setWidth 64 + s.signalClock)
    let dd := winRead s (p.offsetDetectIndex.setWidth 64 + s.signalClock)
    let m := { modOf r s with
      filterIntegrate := fadd (modOf r s).filterIntegrate (fsub sd fd)
      detectIntegrate := fadd (modOf r s).detectIntegrate (fsub sd dd) }
    let e := fsub (fdiv m.filterIntegrate (F32.ofNat p.period4.toNat)) (fdiv m.detectIntegrate (F32.ofNat p.period8.toNat))
    let d := fdiv (fsub s.powerAverage sd) s.powerAverage
    exec (.edge r) s = .next t ∧ t = { s with mods := t.mods, returned := .edge e (fabs e) d } ∧
    modOf r t = m ∧ (∀ q, q ≠ r → modOf q t = modOf q s) ∧
    signedEdge r t = e ∧ rectifiedEdge r t = fabs e ∧ depth r t = d

/-- 41_edge_depth R178 (a): with `powerAverage = 0` the depth is infinite or NaN; a positive sample and a zero sample exceed no
threshold. -/
def Obligations.DepthAtZeroPower : Prop :=
  ∀ (s : State) (r : Rate), s.powerAverage = F32.ofBits 0 →
    (∀ m : Fin 0x7F800000, m.val ≠ 0 → sampleNow r s = .finite false m → depth r s = .inf true) ∧
    (∀ m : Fin 0x7F800000, m.val ≠ 0 → sampleNow r s = .finite true m → depth r s = .inf false) ∧
    (sampleNow r s = F32.ofBits 0 → (depth r s).isNaN = true) ∧
    (∀ (m : Fin 0x7F800000) (x : F32), sampleNow r s = .finite false m → F32.gt (depth r s) x = false)

/-- 41_edge_depth R178 (b): "A NaN or infinite sample poisons both integrators until the next `CFG` or `RST`: every later `E` is NaN,
every comparison false". The clauses: a sample that is not finite poisons both integrators; they stay so at every `EDGE`; a NaN in
one of them alone is enough for the edge, and stays; and no operation but `CFG` and `RST` ends it. -/
def Obligations.NanPoisonsTheIntegrators : Prop :=
  (∀ (s : State) (r : Rate), ∃ t, exec (.edge r) s = .next t ∧
    ((sampleNow r s).isFinite = false ∨ Claims.Poisoned (modOf r s) → Claims.Poisoned (modOf r t) ∧ Claims.EdgeIsNaN r t) ∧
    ((sampleNow r s).isNaN = true → (modOf r t).filterIntegrate.isNaN = true ∧ (modOf r t).detectIntegrate.isNaN = true) ∧
    ((modOf r s).filterIntegrate.isNaN = true → (modOf r t).filterIntegrate.isNaN = true ∧ Claims.EdgeIsNaN r t) ∧
    ((modOf r s).detectIntegrate.isNaN = true → (modOf r t).detectIntegrate.isNaN = true ∧ Claims.EdgeIsNaN r t)) ∧
  (∀ (i : Instr) (s t : State) (q : Rate), exec i s = .next t → i ≠ .rst → (∀ rate, i ≠ .cfg rate) →
    Claims.Poisoned (modOf q s) → Claims.Poisoned (modOf q t))

/-! ## 42_sof_state_machine. `t`, `E`, `A`, `D` of the rules are `s.signalClock`, `signedEdge`, `rectifiedEdge`, `depth` of rate 0. -/

/-- 42_sof_state_machine R186: a closed gate holds the search. -/
def Obligations.SofholdHoldsTheSearch : Prop :=
  ∀ s : State, exec .sofhold s = .next { s with returned := .detection false }

/-- 42_sof_state_machine R187, R188, R197: `SOFOVR`, `SOFX` and `SOFABT` clear the abort's list and nothing else. -/
def Obligations.AbortsClearTheSearch : Prop :=
  ∀ s : State,
    exec .sofabt s = .next (Claims.afterAbort s) ∧
    exec .sofovr s = .next { Claims.afterAbort s with returned := .detection false } ∧
    exec .sofx s = .next { Claims.afterAbort s with returned := .detection false }

/-- 42_sof_state_machine R189, R190: the BEGIN stage, peak test first, then the deadline test. -/
def Obligations.SofbFollowsTheFirstFallingEdge : Prop :=
  ∀ s : State,
    let m := s.mods.k106
    let p := s.params.k106
    let t := s.signalClock
    let e := signedEdge .k106 s
    let newPeak := F32.gt e (F32.ofBits 0x3A83126F) && F32.gt (depth .k106 s) s.minimumModulationThreshold &&
      F32.gt e m.detectorPeek
    let m1 := if newPeak then
        { m with detectorPeek := e, searchPeakTime := t, searchEndTime := t + p.period4.setWidth 64 }
      else m
    (t ≠ m1.searchEndTime → exec .sofb s = .next (Claims.withSearch s m1 false)) ∧
    (t = m1.searchEndTime → m1.searchPeakTime ≠ 0 → exec .sofb s = .next (Claims.withSearch s
      { m1 with
        symbolStartTime := m1.searchPeakTime - p.period8.setWidth 64
        searchStage := .idleStage
        searchStartTime := m1.searchPeakTime + 10 * p.period1.setWidth 64 - p.period2.setWidth 64
        searchEndTime := m1.searchPeakTime + 11 * p.period1.setWidth 64 + p.period2.setWidth 64
        searchPeakTime := 0
        detectorPeek := F32.ofBits 0 } false)) ∧
    (t = m1.searchEndTime → m1.searchPeakTime = 0 →
      exec .sofb s = .next (Claims.withSearch s { m1 with searchStartTime := 0, searchEndTime := 0 } false))

/-- 42_sof_state_machine R191, R192: the IDLE stage. -/
def Obligations.SofiFindsTheRisingEdgeOrAborts : Prop :=
  ∀ s : State,
    let m := s.mods.k106
    let p := s.params.k106
    let t := s.signalClock
    let e := signedEdge .k106 s
    let inside := decide (m.searchStartTime ≤ t) && decide (t ≤ m.searchEndTime)
    let newPeak := inside && F32.lt e (fneg (F32.ofBits 0x3A83126F)) && F32.lt e m.detectorPeek
    let m1 := if newPeak then
        { m with detectorPeek := e, searchPeakTime := t, searchEndTime := t + p.period4.setWidth 64 }
      else m
    let illegal := !inside && F32.gt (rectifiedEdge .k106 s) (F32.ofBits 0x3A83126F)
    (illegal = true → exec .sofi s = .next { Claims.afterAbort s with returned := .detection false }) ∧
    (illegal = false → t ≠ m1.searchEndTime → exec .sofi s = .next (Claims.withSearch s m1 false)) ∧
    (illegal = false → t = m1.searchEndTime → m1.searchPeakTime ≠ 0 → exec .sofi s = .next (Claims.withSearch s
      { m1 with
        searchStage := .endStage
        searchStartTime := m1.searchPeakTime + 2 * p.period1.setWidth 64 - p.period2.setWidth 64
        searchEndTime := m1.searchPeakTime + 3 * p.period1.setWidth 64 + p.period2.setWidth 64
        searchPeakTime := 0
        detectorPeek := F32.ofBits 0 } false)) ∧
    (illegal = false → t = m1.searchEndTime → m1.searchPeakTime = 0 →
      exec .sofi s = .next { Claims.afterAbort s with returned := .detection false })

/-- 42_sof_state_machine R193: the END stage; its deadline is `t + period8`. -/
def Obligations.SofeConfirmsOrFallsBack : Prop :=
  ∀ s : State,
    let m := s.mods.k106
    let p := s.params.k106
    let t := s.signalClock
    let e := signedEdge .k106 s
    let inside := decide (m.searchStartTime ≤ t) && decide (t ≤ m.searchEndTime)
    let newPeak := inside && F32.gt e (F32.ofBits 0x3A83126F) &&
      F32.gt (depth .k106 s) s.minimumModulationThreshold && F32.gt e m.detectorPeek
    let m1 := if newPeak then
        { m with detectorPeek := e, searchPeakTime := t, searchEndTime := t + p.period8.setWidth 64 }
      else m
    (t ≠ m1.searchEndTime → exec .sofe s = .next (Claims.withSearch s m1 false)) ∧
    (t = m1.searchEndTime → m1.searchPeakTime ≠ 0 → ∃ u,
      exec .sofconf { s with mods := { s.mods with k106 := m1 } } = .next u ∧
      exec .sofe s = .next { u with returned := .detection true }) ∧
    (t = m1.searchEndTime → m1.searchPeakTime = 0 →
      exec .sofe s = .next { Claims.afterAbort s with returned := .detection false })

/-- 42_sof_state_machine R195: the confirmation and all it writes. -/
def Obligations.SofconfStartsAFrame : Prop :=
  ∀ s : State,
    let m := s.mods.k106
    let p := s.params.k106
    exec .sofconf s = .next { s with
      mods := { s.mods with k106 := { m with
        symbolEndTime := m.searchPeakTime - p.period8.setWidth 64
        symbolSyncTime := 0 } }
      frame := { s.frame with
        frameType := .pollFrame
        symbolRate := p.symbolsPerSecond
        frameStart := m.symbolStartTime - p.symbolDelayDetect.setWidth 64
        frameEnd := 0 }
      activeValid := true
      activeRate := .k106
      sofConfirmed := true }

/-! ## 43_symbol_tracker -/

/-- 43_symbol_tracker R215 to R219: re-sync, prediction, decision, in this order, for the active rate. -/
def Obligations.TrkResyncsPredictsAndDecides : Prop :=
  ∀ s : State,
    let r := s.activeRate
    let m := modOf r s
    let p := paramsOf r s
    let t := s.signalClock
    let a := rectifiedEdge r s
    let low := F32.gt (depth r s) s.minimumModulationThreshold
    let dly : Time := p.symbolDelayDetect.setWidth 64
    let m1 := if m.searchStartTime < t ∧ t < m.searchEndTime ∧ F32.gt a m.detectorPeek = true ∧ low = true then
        { m with detectorPeek := a, symbolEndTime := t - p.period8.setWidth 64, symbolSyncTime := 0 }
      else m
    let m2 := if m1.symbolSyncTime = 0 then
        { m1 with
          symbolStartTime := m1.symbolEndTime
          symbolEndTime := m1.symbolEndTime + p.period1.setWidth 64
          symbolSyncTime := m1.symbolEndTime + p.period2.setWidth 64 }
      else m1
    (t ≠ m2.symbolSyncTime → ∃ u, exec .trk s = .next u ∧
      u = { s with mods := u.mods, returned := .symbol none } ∧
      modOf r u = m2 ∧ (∀ q, q ≠ r → modOf q u = modOf q s)) ∧
    (t = m2.symbolSyncTime → ∃ u, exec .trk s = .next u ∧
      u = { s with mods := u.mods, returned := u.returned, symbol :=
        { pattern := if low then .patternL else .patternH
          value := if low then 0 else 1
          startAt := m2.symbolStartTime - dly
          endAt := m2.symbolEndTime - dly
          length := (m2.symbolEndTime - dly) - (m2.symbolStartTime - dly) } } ∧
      u.returned = .symbol (some u.symbol.pattern) ∧
      modOf r u = { m2 with
        searchStartTime := m2.symbolEndTime - p.period4.setWidth 64
        searchEndTime := m2.symbolEndTime + p.period4.setWidth 64
        symbolSyncTime := 0
        detectorPeek := F32.ofBits 0 } ∧
      (∀ q, q ≠ r → modOf q u = modOf q s))

/-- 43_symbol_tracker R222: the symbol under way is one period long at the end of every `TRK`, given it was before or is about to
be predicted. -/
def Obligations.TrackedSymbolsAreOnePeriodLong : Prop :=
  ∀ (s t : State), exec .trk s = .next t →
    let r := s.activeRate
    let p1 : Time := (paramsOf r s).period1.setWidth 64
    ((modOf r s).symbolSyncTime = 0 ∨ (modOf r s).symbolEndTime - (modOf r s).symbolStartTime = p1) →
    (modOf r t).symbolEndTime - (modOf r t).symbolStartTime = p1 ∧
    (t.returned ≠ .symbol none → t.symbol.length = p1)

/-! ## 44_bit_byte_framer -/

/-- 44_bit_byte_framer R236, R248: which row a symbol selects, from the position, the pattern, the accumulator and the buffer. -/
def Obligations.FramerDecisionTable : Prop :=
  ∀ s : State, (s.symbol.pattern = .patternL ∨ s.symbol.pattern = .patternH) →
    let b := s.stream.bits
    let full := decide (s.stream.bytes = s.protocol.maxFrameSize)
    let l := s.symbol.pattern = .patternL
    let h := s.symbol.pattern = .patternH
    let op := decodeSym (symKey s)
    (b = 9 → s.stream.data = 0 → l → op = .feof) ∧
    (b = 0 → h → op = .fserrStart) ∧
    (b = 9 → s.stream.data ≠ 0 → l → op = .fserrStop) ∧
    (b = 0 → l → op = if full then .ftruncStart else .fstart) ∧
    (b ≠ 0 → b ≠ 9 → op = if full then .ftruncData else .fdata) ∧
    (b = 9 → h → op = if full then .ftruncStop else .fpush)

/-- 44_bit_byte_framer R236: the three terminator conditions exclude each other, and each is exactly what its rows are
selected on. -/
def Obligations.TerminatorConditionsSelectTheirRows : Prop :=
  ∀ s : State, (s.symbol.pattern = .patternL ∨ s.symbol.pattern = .patternH) →
    (frameEndCond s = true ↔ decodeSym (symKey s) = .feof) ∧
    (streamErrorCond s = true ↔ decodeSym (symKey s) = .fserrStart ∨ decodeSym (symKey s) = .fserrStop) ∧
    (truncateErrorCond s = true ↔ decodeSym (symKey s) = .ftruncStart ∨ decodeSym (symKey s) = .ftruncData ∨
      decodeSym (symKey s) = .ftruncStop)

/-- 44_bit_byte_framer R240, R241: `FSTART` and `FDATA` and their frame. -/
def Obligations.FstartAndFdataAdvanceThePosition : Prop :=
  ∀ s : State,
    exec .fstart s = .next { s with stream := { s.stream with bits := 1 } } ∧
    (1 ≤ s.stream.bits.toNat → s.stream.bits.toNat ≤ 8 → exec .fdata s = .next { s with stream := { s.stream with
      data := s.stream.data ||| (s.symbol.value.setWidth 8 <<< (s.stream.bits.toNat - 1))
      bits := s.stream.bits + 1 } })

/-- 44_bit_byte_framer R242, 20_memory R90: `FPUSH` stores the byte in cell `bytes`; every other cell reads as before. -/
def Obligations.FpushStoresTheByte : Prop :=
  ∀ s : State, s.stream.buffer.wf → s.stream.bytes.toNat < 256 → ∃ t, exec .fpush s = .next t ∧
    t = { s with stream := { buffer := t.stream.buffer, bytes := s.stream.bytes + 1, data := 0, bits := 0 } } ∧
    t.stream.buffer.wf ∧
    (∀ cell, t.stream.buffer.read cell =
      if cell = s.stream.bytes.toNat then s.stream.data else s.stream.buffer.read cell)

/-- The model's fault: an access past the 256 cells of the stream buffer (20_memory R80; notes/assumptions/15, the model's
choice), and only there. -/
def Obligations.BufferFaultsOnlyPastItsCells : Prop :=
  ∀ (s : State) (trunc : Bool),
    (exec .fpush s = .fault .noBufferCell ↔ 256 ≤ s.stream.bytes.toNat) ∧
    (exec (.fin trunc) s = .fault .noBufferCell ↔ 256 < s.stream.bytes.toNat) ∧
    (exec (.fterm trunc) s = .fault .noBufferCell ↔ 256 < s.stream.bytes.toNat)

/-- 44_bit_byte_framer R237 to R239: each terminator row is `FTERM` with its `trunc`, and each ends in a searching block. -/
def Obligations.TerminatorsRunFterm : Prop :=
  ∀ s : State, s.stream.bytes.toNat ≤ 256 → ∃ t u,
    exec (.fterm false) s = .next t ∧ exec .feof s = .next t ∧
    exec (.fterm true) s = .next u ∧ exec .fserrStart s = .next u ∧ exec .fserrStop s = .next u ∧
    exec .ftruncStart s = .next u ∧ exec .ftruncData s = .next u ∧ exec .ftruncStop s = .next u ∧
    Claims.Searches t ∧ Claims.Searches u

/-- 44_bit_byte_framer R243, R244: `FTERM` publishes only a frame with a byte, and always resets the modulation. -/
def Obligations.FtermPublishesOnlyNonEmptyFrames : Prop :=
  ∀ (s : State) (trunc : Bool),
    (s.stream.bytes = 0 → exec (.fterm trunc) s = .next (Claims.afterRstm s)) ∧
    (s.stream.bytes ≠ 0 → s.stream.bytes.toNat ≤ 256 → ∃ t, exec (.fin trunc) s = .next t ∧
      exec (.fterm trunc) s = .next (Claims.afterRstm t))

/-- 44_bit_byte_framer R245: `FIN` builds the record, hands it to `CLS`, and publishes what `CLS` made of it. (`phase` is
`CLS`'s to set, so the record is the same whatever `phase` it is built with.) -/
def Obligations.FinBuildsClassifiesAndPublishes : Prop :=
  ∀ (s : State) (trunc : Bool) (phase : Phase), s.stream.bytes.toNat ≤ 256 → ∃ t,
    exec (.cls
      { tech := .nfcB, frameType := .pollFrame, phase := phase
        flags := if trunc then 0x08 else 0x00
        rate := s.frame.symbolRate
        sampleStart := s.frame.frameStart, sampleEnd := s.symbol.endAt
        timeStart := wallTime s.frame.frameStart s.sampleRate, timeEnd := wallTime s.symbol.endAt s.sampleRate
        payload := (List.range s.stream.bytes.toNat).map s.stream.buffer.read })
      { s with frame := { s.frame with frameEnd := s.symbol.endAt } } = .next t ∧
    exec (.fin trunc) s = .next { t with frameValid := true }

/-! ## 45_protocol_classifier, 46_crc16 -/

/-- 45_protocol_classifier R261, R263, R266, R268: a poll frame of 5 bytes that starts `05`. (That `CLS` itself leaves the completed
record in `frameOut` is notes/assumptions/10, DEDUCED.) -/
def Obligations.ClsRecognisesReqb : Prop :=
  ∀ (s : State) (f : FrameRecord), f.frameType = .pollFrame → f.payload.length = 5 → f.payload.head? = some 0x05 →
    let dly : Time := (paramsOf s.activeRate s).symbolDelayDetect.setWidth 64
    let guard := toSamples s.sampleTimeUnit 896
    let waiting := toSamples s.sampleTimeUnit 2304
    exec (.cls f) s = .next { s with
      protocol :=
        { maxFrameSize := 256
          frameGuardTime := toSamples s.sampleTimeUnit 896
          frameWaitingTime := toSamples s.sampleTimeUnit 65536
          startUpGuardTime := toSamples s.sampleTimeUnit 4096
          requestGuardTime := toSamples s.sampleTimeUnit 7000 }
      chainedFlags := 0
      frame := { s.frame with
        frameGuardTime := guard
        frameWaitingTime := waiting
        lastCommand := 0x05
        guardEnd := s.frame.frameEnd + guard.setWidth 64 + dly
        waitingEnd := s.frame.frameEnd + waiting.setWidth 64 + dly
        frameType := .listenFrame
        lastFrameEnd := s.frame.frameEnd
        frameStart := 0
        frameEnd := 0 }
      frameOut := { f with
        phase := .selectionFrame
        flags := if crcCheck f.payload then f.flags else f.flags ||| 0x20 } }

/-- 45_protocol_classifier R261, R264 to R266, R268: every other poll frame. (`frameOut`: notes/assumptions/10, DEDUCED.) -/
def Obligations.ClsTreatsOtherFramesAsApplication : Prop :=
  ∀ (s : State) (f : FrameRecord), f.frameType = .pollFrame →
    ¬ (f.payload.length = 5 ∧ f.payload.head? = some 0x05) →
    let dly : Time := (paramsOf s.activeRate s).symbolDelayDetect.setWidth 64
    exec (.cls f) s = .next { s with
      frame := { s.frame with
        frameWaitingTime := s.protocol.frameWaitingTime
        guardEnd := s.frame.frameEnd + s.frame.frameGuardTime.setWidth 64 + dly
        waitingEnd := s.frame.frameEnd + s.protocol.frameWaitingTime.setWidth 64 + dly
        frameType := .listenFrame
        lastFrameEnd := s.frame.frameEnd
        frameStart := 0
        frameEnd := 0 }
      frameOut := { f with
        phase := .applicationFrame
        flags := (if crcCheck f.payload then f.flags else f.flags ||| 0x20) ||| s.chainedFlags } }

/-- 45_protocol_classifier R261, R267, R268: a record of another type opens no listen window, and a listen frame clears
`frameType` and `lastCommand`. No run makes one (R267): `FIN` builds poll frames only. -/
def Obligations.ClsOpensAWindowOnlyAfterPollFrames : Prop :=
  ∀ (s : State) (f : FrameRecord), f.frameType ≠ .pollFrame → ∃ t, exec (.cls f) s = .next t ∧
    t = { s with protocol := t.protocol, chainedFlags := t.chainedFlags, frame := t.frame, frameOut := t.frameOut } ∧
    t.frame.guardEnd = s.frame.guardEnd ∧ t.frame.waitingEnd = s.frame.waitingEnd ∧
    t.frame.lastFrameEnd = s.frame.frameEnd ∧ t.frame.frameStart = 0 ∧ t.frame.frameEnd = 0 ∧
    (f.frameType = .listenFrame → t.frame.frameType = .noFrame ∧ t.frame.lastCommand = 0) ∧
    (f.frameType = .noFrame → t.frame.frameType = s.frame.frameType)

/-- 46_crc16 R280, R281, R283: `CRC` returns the check of the trailer against the recurrence, and changes nothing else. -/
def Obligations.CrcComparesTheTrailer : Prop :=
  ∀ (s : State) (f : FrameRecord) (body : List Byte) (lo hi : Byte),
    let byteStep := fun (crc : U16) (b : Byte) =>
      let d : Byte := b ^^^ crc.extractLsb' 0 8
      let d : Byte := d ^^^ (d <<< 4)
      (crc >>> 8) ^^^ (d.setWidth 16 <<< 8) ^^^ (d.setWidth 16 <<< 3) ^^^ (d >>> 4).setWidth 16
    let computed := ~~~ (body.foldl byteStep (0xFFFF : U16))
    (f.payload.length ≤ 2 → exec (.crc f) s = .next { s with returned := .crc false }) ∧
    (body ≠ [] → f.payload = body ++ [lo, hi] →
      exec (.crc f) s = .next { s with returned := .crc (decide (computed = hi ++ lo)) })

/-- 46_crc16 R284: "Running the CRC routine on `payload || crc16(payload)` must set no CrcError", the CRC low byte first; of the
empty payload the check fails by the length rule. -/
def Obligations.CrcAcceptsItsOwnTrailer : Prop :=
  ∀ body : List Byte,
    crcCheck (body ++ [(crc16 body).setWidth 8, (crc16 body >>> 8).setWidth 8]) = true ↔ body ≠ []

/-- 46_crc16 R285: one byte of the recurrence is eight steps of the bit-serial CRC with polynomial `0x8408`, least significant
bit first. -/
def Obligations.CrcByteIsEightBitSerialSteps : Prop :=
  ∀ (crc : U16) (b : Byte),
    crcByte crc b =
      (List.range 8).foldl (fun c _ => if c.getLsbD 0 then (c >>> 1) ^^^ 0x8408 else c >>> 1) (crc ^^^ b.setWidth 16)

/-! ## Whole-machine rules -/

/-- 10_state R31, R34, 20_memory R87: only `INGEST` (so `SMP`) and `RST` write the clock, the window and `powerAverage`. -/
def Obligations.CoreNeverWritesTheSignalSource : Prop :=
  ∀ (i : Instr) (s t : State), exec i s = .next t → i ≠ .rst → (∀ a b, i ≠ .smp a b ∧ i ≠ .ingest a b) →
    t.signalClock = s.signalClock ∧ t.signalData = s.signalData ∧ t.powerAverage = s.powerAverage

/-- 10_state R36, R33, R38: the thresholds have the writers `THR` and `RST`, the tables and the sample rate `CFG` and `RST`. -/
def Obligations.ConfigurationHasItsOwnWriters : Prop :=
  ∀ (i : Instr) (s t : State), exec i s = .next t → i ≠ .rst →
    ((∀ min max, i ≠ .thr min max) → t.minimumModulationThreshold = s.minimumModulationThreshold ∧
      t.maximumModulationThreshold = s.maximumModulationThreshold) ∧
    ((∀ rate, i ≠ .cfg rate) → t.sampleRate = s.sampleRate ∧ t.sampleTimeUnit = s.sampleTimeUnit ∧ t.params = s.params ∧
      t.configured = s.configured ∧ t.configError = s.configError)

/-- 10_state R50: the selectors are "set by the SOF detector and cleared by reset; no other writer exists". Every other operation keeps
both; only the SOF detector's operations start tracking, at rate 0; only the resets end it, and leave rate 0 at stage BEGIN; and whoever
writes the selectors leaves `activeRate` 0. -/
def Obligations.SelectorsHaveTwoWriters : Prop :=
  ∀ (i : Instr) (s t : State), exec i s = .next t →
    (¬ Claims.SetsSelectors i → ¬ Claims.ClearsSelectors i → t.activeValid = s.activeValid ∧ t.activeRate = s.activeRate) ∧
    (s.activeValid = false → t.activeValid = true → t.activeRate = .k106 ∧ Claims.SetsSelectors i) ∧
    (s.activeValid = true → t.activeValid = false →
      t.activeRate = .k106 ∧ t.mods.k106.searchStage = .beginStage ∧ Claims.ClearsSelectors i) ∧
    ((t.activeValid = s.activeValid ∧ t.activeRate = s.activeRate) ∨ t.activeRate = .k106)

/-- 10_state R40, 47_reset_and_dispatch R296 (a): only `EDGE` (so `SMP`), `CFG` and `RST` write the integrators; `phaseIntegrate`
and the reserved `searchDeepValue` (10_state R44) have no writer but `CFG` and `RST`. -/
def Obligations.OnlyEdgeAndConfigurationWriteIntegrators : Prop :=
  ∀ (i : Instr) (s t : State) (q : Rate), exec i s = .next t → i ≠ .rst → (∀ rate, i ≠ .cfg rate) →
    (modOf q t).phaseIntegrate = (modOf q s).phaseIntegrate ∧ (modOf q t).searchDeepValue = (modOf q s).searchDeepValue ∧
    ((∀ r, i ≠ .edge r) → (∀ a b, i ≠ .smp a b) →
      (modOf q t).filterIntegrate = (modOf q s).filterIntegrate ∧
      (modOf q t).detectIntegrate = (modOf q s).detectIntegrate)

/-- 42_sof_state_machine R199: the SOF operations but the confirmation produce no frame and no output, and leave the framer, the
frame registers and the selectors alone. -/
def Obligations.SearchNeverProducesOutput : Prop :=
  ∀ (i : Instr) (s t : State), exec i s = .next t →
    (i = .sofhold ∨ i = .sofovr ∨ i = .sofb ∨ i = .sofi ∨ i = .sofx ∨ i = .sofabt) →
    t = { s with mods := t.mods, returned := t.returned } ∧ (∀ q, q ≠ .k106 → modOf q t = modOf q s)

/-- No operation writes the pin ("no writer inside the block", 10_state R35), the parameter `N` (00_scope R9) or the commands still to
come. That these are fields of State, and that every operation, `RST` too, keeps them, is the model's choice (notes/assumptions/1, 2
and 3): no rule speaks of the commands still to come. -/
def Obligations.InputsAreNeverWritten : Prop :=
  ∀ (i : Instr) (s t : State), exec i s = .next t →
    t.powerLevelThreshold = s.powerLevelThreshold ∧ t.windowBits = s.windowBits ∧ t.port = s.port

/-- 10_state R57, 44_bit_byte_framer R246, 20_memory R90, 30_encoding R133, R134: every step keeps the invariant, from every state
that has it, not only from reset. -/
def Obligations.EveryStepKeepsTheInvariant : Prop :=
  ∀ s t : State, Inv s → step s = .next t → Inv t

/-- 60_exceptions R310: "every command runs to its end". From a state with the invariant no step stops. -/
def Obligations.NoStepStops : Prop := ∀ s : State, Inv s → ∃ t, step s = .next t

/-- 30_encoding R125, R126, 44_bit_byte_framer R245, R247: every field of every published frame. (The wall times are those of
`RoundingIsToNearestEven`.) A frame is not `Truncated` exactly if its last symbol stood at the stop position over a zero accumulator. -/
def Obligations.PublishedFramesAreWellFormed : Prop :=
  ∀ (s t : State) (a b : U32), Inv s → exec (.smp a b) s = .next t → t.frameValid = true →
    t.frameOut.tech = .nfcB ∧ t.frameOut.frameType = .pollFrame ∧
    t.frameOut.phase = (if t.frameOut.payload.head? = some 0x05 ∧ t.frameOut.payload.length = 5 then Phase.selectionFrame
      else Phase.applicationFrame) ∧
    t.frameOut.payload = (List.range s.stream.bytes.toNat).map s.stream.buffer.read ∧
    1 ≤ t.frameOut.payload.length ∧ t.frameOut.payload.length ≤ 256 ∧
    t.frameOut.rate = s.frame.symbolRate ∧
    t.frameOut.sampleStart = s.frame.frameStart ∧ t.frameOut.sampleEnd = t.frame.lastFrameEnd ∧
    t.frameOut.timeStart = wallTime s.frame.frameStart s.sampleRate ∧
    t.frameOut.timeEnd = wallTime t.frame.lastFrameEnd s.sampleRate ∧
    t.frameOut.flags &&& 0xD7 = 0 ∧
    (t.frameOut.flags &&& 0x20 = 0x20 ↔ crcCheck t.frameOut.payload = false) ∧
    (t.frameOut.flags &&& 0x08 = 0 ↔ s.stream.bits = 9 ∧ s.stream.data = 0) ∧
    (t.frameOut.flags &&& 0x08 = 0 → t.frameOut.payload.length ≤ 255)
end

