-- ==== Sys2Proof/Laws/Decode.lean ====
section
/-! SUPPORT. The laws of the command word: what each field of `cmdWord` reads as, so that a proof about decoding need not
compute with 67-bit words. -/

namespace Sys2Proof

theorem getLsbD_cmdWord (op : BitVec 3) (a b : U32) (i : Nat) : (cmdWord op a b).getLsbD i =
    if i < 3 then op.getLsbD i else if i < 35 then a.getLsbD (i - 3) else b.getLsbD (i - 35) := by
  have h : (cmdWord op a b).getLsbD i = ((b ++ a : BitVec 64) ++ op : BitVec 67).getLsbD i := rfl
  rw [h]
  erw [BitVec.getLsbD_append, BitVec.getLsbD_append]
  rw [show i - 3 - 32 = i - 35 by omega]
  split_ifs <;> first | rfl | omega

@[simp] theorem cmdOp_cmdWord (op : BitVec 3) (a b : U32) : cmdOp (cmdWord op a b) = op := by
  apply BitVec.eq_of_getLsbD_eq
  intro i hi
  simp [cmdOp, getLsbD_cmdWord, hi]

@[simp] theorem cmdArg0_cmdWord (op : BitVec 3) (a b : U32) : cmdArg0 (cmdWord op a b) = a := by
  apply BitVec.eq_of_getLsbD_eq
  intro i hi
  simp [cmdArg0, getLsbD_cmdWord, hi, show 3 + i < 35 by omega]

@[simp] theorem cmdArg1_cmdWord (op : BitVec 3) (a b : U32) : cmdArg1 (cmdWord op a b) = b := by
  apply BitVec.eq_of_getLsbD_eq
  intro i hi
  simp [cmdArg1, getLsbD_cmdWord, hi, show ¬ 35 + i < 3 by omega, show ¬ 35 + i < 35 by omega]

end Sys2Proof
end

