-- ==== Sys2Proof/Laws/State.lean ====
section
/-! SUPPORT. One lemma per field for each shared update of State, so that a proof need not unfold the update. -/

namespace Sys2Proof.Machine

/-! ## Per-rate tables -/

@[simp] theorem perRateGet_set_same {α : Type} (t : PerRate α) (r : Rate) (v : α) :
    perRateGet (perRateSet t r v) r = v := by
  cases r <;> rfl

theorem perRateGet_set_ne {α : Type} (t : PerRate α) {r q : Rate} (v : α) (h : q ≠ r) :
    perRateGet (perRateSet t r v) q = perRateGet t q := by
  cases r <;> cases q <;> first | rfl | exact absurd rfl h

@[simp] theorem perRateSet_k106 {α : Type} (t : PerRate α) (v : α) :
    perRateSet t .k106 v = { t with k106 := v } := rfl

@[simp] theorem paramsOf_k106 (s : State) : paramsOf .k106 s = s.params.k106 := rfl
@[simp] theorem modOf_k106 (s : State) : modOf .k106 s = s.mods.k106 := rfl

/-! ## `setMod` -/

@[simp] theorem setMod_signalClock (r : Rate) (m : ModulationStatus) (s : State) : (setMod r m s).signalClock = s.signalClock := rfl
@[simp] theorem setMod_signalData (r : Rate) (m : ModulationStatus) (s : State) : (setMod r m s).signalData = s.signalData := rfl
@[simp] theorem setMod_powerAverage (r : Rate) (m : ModulationStatus) (s : State) : (setMod r m s).powerAverage = s.powerAverage := rfl
@[simp] theorem setMod_powerLevelThreshold (r : Rate) (m : ModulationStatus) (s : State) : (setMod r m s).powerLevelThreshold = s.powerLevelThreshold := rfl
@[simp] theorem setMod_sampleRate (r : Rate) (m : ModulationStatus) (s : State) : (setMod r m s).sampleRate = s.sampleRate := rfl
@[simp] theorem setMod_sampleTimeUnit (r : Rate) (m : ModulationStatus) (s : State) : (setMod r m s).sampleTimeUnit = s.sampleTimeUnit := rfl
@[simp] theorem setMod_minimumModulationThreshold (r : Rate) (m : ModulationStatus) (s : State) : (setMod r m s).minimumModulationThreshold = s.minimumModulationThreshold := rfl
@[simp] theorem setMod_maximumModulationThreshold (r : Rate) (m : ModulationStatus) (s : State) : (setMod r m s).maximumModulationThreshold = s.maximumModulationThreshold := rfl
@[simp] theorem setMod_configured (r : Rate) (m : ModulationStatus) (s : State) : (setMod r m s).configured = s.configured := rfl
@[simp] theorem setMod_configError (r : Rate) (m : ModulationStatus) (s : State) : (setMod r m s).configError = s.configError := rfl
@[simp] theorem setMod_params (r : Rate) (m : ModulationStatus) (s : State) : (setMod r m s).params = s.params := rfl
@[simp] theorem setMod_mods (r : Rate) (m : ModulationStatus) (s : State) :
    (setMod r m s).mods = perRateSet s.mods r m := rfl
@[simp] theorem setMod_symbol (r : Rate) (m : ModulationStatus) (s : State) : (setMod r m s).symbol = s.symbol := rfl
@[simp] theorem setMod_stream (r : Rate) (m : ModulationStatus) (s : State) : (setMod r m s).stream = s.stream := rfl
@[simp] theorem setMod_frame (r : Rate) (m : ModulationStatus) (s : State) : (setMod r m s).frame = s.frame := rfl
@[simp] theorem setMod_protocol (r : Rate) (m : ModulationStatus) (s : State) : (setMod r m s).protocol = s.protocol := rfl
@[simp] theorem setMod_activeValid (r : Rate) (m : ModulationStatus) (s : State) : (setMod r m s).activeValid = s.activeValid := rfl
@[simp] theorem setMod_activeRate (r : Rate) (m : ModulationStatus) (s : State) : (setMod r m s).activeRate = s.activeRate := rfl
@[simp] theorem setMod_chainedFlags (r : Rate) (m : ModulationStatus) (s : State) : (setMod r m s).chainedFlags = s.chainedFlags := rfl
@[simp] theorem setMod_frameOut (r : Rate) (m : ModulationStatus) (s : State) : (setMod r m s).frameOut = s.frameOut := rfl
@[simp] theorem setMod_sofConfirmed (r : Rate) (m : ModulationStatus) (s : State) : (setMod r m s).sofConfirmed = s.sofConfirmed := rfl
@[simp] theorem setMod_frameValid (r : Rate) (m : ModulationStatus) (s : State) : (setMod r m s).frameValid = s.frameValid := rfl
@[simp] theorem setMod_windowBits (r : Rate) (m : ModulationStatus) (s : State) : (setMod r m s).windowBits = s.windowBits := rfl
@[simp] theorem setMod_port (r : Rate) (m : ModulationStatus) (s : State) : (setMod r m s).port = s.port := rfl
@[simp] theorem setMod_returned (r : Rate) (m : ModulationStatus) (s : State) : (setMod r m s).returned = s.returned := rfl

/-! ## `returning` -/

@[simp] theorem returning_signalClock (x : Returned) (s : State) : (returning x s).signalClock = s.signalClock := rfl
@[simp] theorem returning_signalData (x : Returned) (s : State) : (returning x s).signalData = s.signalData := rfl
@[simp] theorem returning_powerAverage (x : Returned) (s : State) : (returning x s).powerAverage = s.powerAverage := rfl
@[simp] theorem returning_powerLevelThreshold (x : Returned) (s : State) : (returning x s).powerLevelThreshold = s.powerLevelThreshold := rfl
@[simp] theorem returning_sampleRate (x : Returned) (s : State) : (returning x s).sampleRate = s.sampleRate := rfl
@[simp] theorem returning_sampleTimeUnit (x : Returned) (s : State) : (returning x s).sampleTimeUnit = s.sampleTimeUnit := rfl
@[simp] theorem returning_minimumModulationThreshold (x : Returned) (s : State) : (returning x s).minimumModulationThreshold = s.minimumModulationThreshold := rfl
@[simp] theorem returning_maximumModulationThreshold (x : Returned) (s : State) : (returning x s).maximumModulationThreshold = s.maximumModulationThreshold := rfl
@[simp] theorem returning_configured (x : Returned) (s : State) : (returning x s).configured = s.configured := rfl
@[simp] theorem returning_configError (x : Returned) (s : State) : (returning x s).configError = s.configError := rfl
@[simp] theorem returning_params (x : Returned) (s : State) : (returning x s).params = s.params := rfl
@[simp] theorem returning_mods (x : Returned) (s : State) : (returning x s).mods = s.mods := rfl
@[simp] theorem returning_symbol (x : Returned) (s : State) : (returning x s).symbol = s.symbol := rfl
@[simp] theorem returning_stream (x : Returned) (s : State) : (returning x s).stream = s.stream := rfl
@[simp] theorem returning_frame (x : Returned) (s : State) : (returning x s).frame = s.frame := rfl
@[simp] theorem returning_protocol (x : Returned) (s : State) : (returning x s).protocol = s.protocol := rfl
@[simp] theorem returning_activeValid (x : Returned) (s : State) : (returning x s).activeValid = s.activeValid := rfl
@[simp] theorem returning_activeRate (x : Returned) (s : State) : (returning x s).activeRate = s.activeRate := rfl
@[simp] theorem returning_chainedFlags (x : Returned) (s : State) : (returning x s).chainedFlags = s.chainedFlags := rfl
@[simp] theorem returning_frameOut (x : Returned) (s : State) : (returning x s).frameOut = s.frameOut := rfl
@[simp] theorem returning_sofConfirmed (x : Returned) (s : State) : (returning x s).sofConfirmed = s.sofConfirmed := rfl
@[simp] theorem returning_frameValid (x : Returned) (s : State) : (returning x s).frameValid = s.frameValid := rfl
@[simp] theorem returning_windowBits (x : Returned) (s : State) : (returning x s).windowBits = s.windowBits := rfl
@[simp] theorem returning_port (x : Returned) (s : State) : (returning x s).port = s.port := rfl
@[simp] theorem returning_returned (x : Returned) (s : State) :
    (returning x s).returned = x := rfl

/-! ## `noDetection` -/

@[simp] theorem noDetection_signalClock (s : State) : (noDetection s).signalClock = s.signalClock := rfl
@[simp] theorem noDetection_signalData (s : State) : (noDetection s).signalData = s.signalData := rfl
@[simp] theorem noDetection_powerAverage (s : State) : (noDetection s).powerAverage = s.powerAverage := rfl
@[simp] theorem noDetection_powerLevelThreshold (s : State) : (noDetection s).powerLevelThreshold = s.powerLevelThreshold := rfl
@[simp] theorem noDetection_sampleRate (s : State) : (noDetection s).sampleRate = s.sampleRate := rfl
@[simp] theorem noDetection_sampleTimeUnit (s : State) : (noDetection s).sampleTimeUnit = s.sampleTimeUnit := rfl
@[simp] theorem noDetection_minimumModulationThreshold (s : State) : (noDetection s).minimumModulationThreshold = s.minimumModulationThreshold := rfl
@[simp] theorem noDetection_maximumModulationThreshold (s : State) : (noDetection s).maximumModulationThreshold = s.maximumModulationThreshold := rfl
@[simp] theorem noDetection_configured (s : State) : (noDetection s).configured = s.configured := rfl
@[simp] theorem noDetection_configError (s : State) : (noDetection s).configError = s.configError := rfl
@[simp] theorem noDetection_params (s : State) : (noDetection s).params = s.params := rfl
@[simp] theorem noDetection_mods (s : State) : (noDetection s).mods = s.mods := rfl
@[simp] theorem noDetection_symbol (s : State) : (noDetection s).symbol = s.symbol := rfl
@[simp] theorem noDetection_stream (s : State) : (noDetection s).stream = s.stream := rfl
@[simp] theorem noDetection_frame (s : State) : (noDetection s).frame = s.frame := rfl
@[simp] theorem noDetection_protocol (s : State) : (noDetection s).protocol = s.protocol := rfl
@[simp] theorem noDetection_activeValid (s : State) : (noDetection s).activeValid = s.activeValid := rfl
@[simp] theorem noDetection_activeRate (s : State) : (noDetection s).activeRate = s.activeRate := rfl
@[simp] theorem noDetection_chainedFlags (s : State) : (noDetection s).chainedFlags = s.chainedFlags := rfl
@[simp] theorem noDetection_frameOut (s : State) : (noDetection s).frameOut = s.frameOut := rfl
@[simp] theorem noDetection_sofConfirmed (s : State) : (noDetection s).sofConfirmed = s.sofConfirmed := rfl
@[simp] theorem noDetection_frameValid (s : State) : (noDetection s).frameValid = s.frameValid := rfl
@[simp] theorem noDetection_windowBits (s : State) : (noDetection s).windowBits = s.windowBits := rfl
@[simp] theorem noDetection_port (s : State) : (noDetection s).port = s.port := rfl
@[simp] theorem noDetection_returned (s : State) :
    (noDetection s).returned = .detection false := rfl

/-! ## `sofAbort` -/

@[simp] theorem sofAbort_signalClock (s : State) : (sofAbort s).signalClock = s.signalClock := rfl
@[simp] theorem sofAbort_signalData (s : State) : (sofAbort s).signalData = s.signalData := rfl
@[simp] theorem sofAbort_powerAverage (s : State) : (sofAbort s).powerAverage = s.powerAverage := rfl
@[simp] theorem sofAbort_powerLevelThreshold (s : State) : (sofAbort s).powerLevelThreshold = s.powerLevelThreshold := rfl
@[simp] theorem sofAbort_sampleRate (s : State) : (sofAbort s).sampleRate = s.sampleRate := rfl
@[simp] theorem sofAbort_sampleTimeUnit (s : State) : (sofAbort s).sampleTimeUnit = s.sampleTimeUnit := rfl
@[simp] theorem sofAbort_minimumModulationThreshold (s : State) : (sofAbort s).minimumModulationThreshold = s.minimumModulationThreshold := rfl
@[simp] theorem sofAbort_maximumModulationThreshold (s : State) : (sofAbort s).maximumModulationThreshold = s.maximumModulationThreshold := rfl
@[simp] theorem sofAbort_configured (s : State) : (sofAbort s).configured = s.configured := rfl
@[simp] theorem sofAbort_configError (s : State) : (sofAbort s).configError = s.configError := rfl
@[simp] theorem sofAbort_params (s : State) : (sofAbort s).params = s.params := rfl
@[simp] theorem sofAbort_mods (s : State) :
    (sofAbort s).mods = { s.mods with k106 := s.mods.k106.abortSearch } := rfl
@[simp] theorem sofAbort_symbol (s : State) : (sofAbort s).symbol = s.symbol := rfl
@[simp] theorem sofAbort_stream (s : State) : (sofAbort s).stream = s.stream := rfl
@[simp] theorem sofAbort_frame (s : State) : (sofAbort s).frame = s.frame := rfl
@[simp] theorem sofAbort_protocol (s : State) : (sofAbort s).protocol = s.protocol := rfl
@[simp] theorem sofAbort_activeValid (s : State) : (sofAbort s).activeValid = s.activeValid := rfl
@[simp] theorem sofAbort_activeRate (s : State) : (sofAbort s).activeRate = s.activeRate := rfl
@[simp] theorem sofAbort_chainedFlags (s : State) : (sofAbort s).chainedFlags = s.chainedFlags := rfl
@[simp] theorem sofAbort_frameOut (s : State) : (sofAbort s).frameOut = s.frameOut := rfl
@[simp] theorem sofAbort_sofConfirmed (s : State) : (sofAbort s).sofConfirmed = s.sofConfirmed := rfl
@[simp] theorem sofAbort_frameValid (s : State) : (sofAbort s).frameValid = s.frameValid := rfl
@[simp] theorem sofAbort_windowBits (s : State) : (sofAbort s).windowBits = s.windowBits := rfl
@[simp] theorem sofAbort_port (s : State) : (sofAbort s).port = s.port := rfl
@[simp] theorem sofAbort_returned (s : State) : (sofAbort s).returned = s.returned := rfl

/-! ## `winWrite` -/

@[simp] theorem winWrite_signalClock (i : Time) (v : U32) (s : State) : (winWrite i v s).signalClock = s.signalClock := rfl
@[simp] theorem winWrite_signalData (i : Time) (v : U32) (s : State) :
    (winWrite i v s).signalData = s.signalData.write (windowCell s i) v := rfl
@[simp] theorem winWrite_powerAverage (i : Time) (v : U32) (s : State) : (winWrite i v s).powerAverage = s.powerAverage := rfl
@[simp] theorem winWrite_powerLevelThreshold (i : Time) (v : U32) (s : State) : (winWrite i v s).powerLevelThreshold = s.powerLevelThreshold := rfl
@[simp] theorem winWrite_sampleRate (i : Time) (v : U32) (s : State) : (winWrite i v s).sampleRate = s.sampleRate := rfl
@[simp] theorem winWrite_sampleTimeUnit (i : Time) (v : U32) (s : State) : (winWrite i v s).sampleTimeUnit = s.sampleTimeUnit := rfl
@[simp] theorem winWrite_minimumModulationThreshold (i : Time) (v : U32) (s : State) : (winWrite i v s).minimumModulationThreshold = s.minimumModulationThreshold := rfl
@[simp] theorem winWrite_maximumModulationThreshold (i : Time) (v : U32) (s : State) : (winWrite i v s).maximumModulationThreshold = s.maximumModulationThreshold := rfl
@[simp] theorem winWrite_configured (i : Time) (v : U32) (s : State) : (winWrite i v s).configured = s.configured := rfl
@[simp] theorem winWrite_configError (i : Time) (v : U32) (s : State) : (winWrite i v s).configError = s.configError := rfl
@[simp] theorem winWrite_params (i : Time) (v : U32) (s : State) : (winWrite i v s).params = s.params := rfl
@[simp] theorem winWrite_mods (i : Time) (v : U32) (s : State) : (winWrite i v s).mods = s.mods := rfl
@[simp] theorem winWrite_symbol (i : Time) (v : U32) (s : State) : (winWrite i v s).symbol = s.symbol := rfl
@[simp] theorem winWrite_stream (i : Time) (v : U32) (s : State) : (winWrite i v s).stream = s.stream := rfl
@[simp] theorem winWrite_frame (i : Time) (v : U32) (s : State) : (winWrite i v s).frame = s.frame := rfl
@[simp] theorem winWrite_protocol (i : Time) (v : U32) (s : State) : (winWrite i v s).protocol = s.protocol := rfl
@[simp] theorem winWrite_activeValid (i : Time) (v : U32) (s : State) : (winWrite i v s).activeValid = s.activeValid := rfl
@[simp] theorem winWrite_activeRate (i : Time) (v : U32) (s : State) : (winWrite i v s).activeRate = s.activeRate := rfl
@[simp] theorem winWrite_chainedFlags (i : Time) (v : U32) (s : State) : (winWrite i v s).chainedFlags = s.chainedFlags := rfl
@[simp] theorem winWrite_frameOut (i : Time) (v : U32) (s : State) : (winWrite i v s).frameOut = s.frameOut := rfl
@[simp] theorem winWrite_sofConfirmed (i : Time) (v : U32) (s : State) : (winWrite i v s).sofConfirmed = s.sofConfirmed := rfl
@[simp] theorem winWrite_frameValid (i : Time) (v : U32) (s : State) : (winWrite i v s).frameValid = s.frameValid := rfl
@[simp] theorem winWrite_windowBits (i : Time) (v : U32) (s : State) : (winWrite i v s).windowBits = s.windowBits := rfl
@[simp] theorem winWrite_port (i : Time) (v : U32) (s : State) : (winWrite i v s).port = s.port := rfl
@[simp] theorem winWrite_returned (i : Time) (v : U32) (s : State) : (winWrite i v s).returned = s.returned := rfl

/-! ## `clearStrobes` -/

@[simp] theorem clearStrobes_signalClock (s : State) : (clearStrobes s).signalClock = s.signalClock := rfl
@[simp] theorem clearStrobes_signalData (s : State) : (clearStrobes s).signalData = s.signalData := rfl
@[simp] theorem clearStrobes_powerAverage (s : State) : (clearStrobes s).powerAverage = s.powerAverage := rfl
@[simp] theorem clearStrobes_powerLevelThreshold (s : State) : (clearStrobes s).powerLevelThreshold = s.powerLevelThreshold := rfl
@[simp] theorem clearStrobes_sampleRate (s : State) : (clearStrobes s).sampleRate = s.sampleRate := rfl
@[simp] theorem clearStrobes_sampleTimeUnit (s : State) : (clearStrobes s).sampleTimeUnit = s.sampleTimeUnit := rfl
@[simp] theorem clearStrobes_minimumModulationThreshold (s : State) : (clearStrobes s).minimumModulationThreshold = s.minimumModulationThreshold := rfl
@[simp] theorem clearStrobes_maximumModulationThreshold (s : State) : (clearStrobes s).maximumModulationThreshold = s.maximumModulationThreshold := rfl
@[simp] theorem clearStrobes_configured (s : State) : (clearStrobes s).configured = s.configured := rfl
@[simp] theorem clearStrobes_configError (s : State) : (clearStrobes s).configError = s.configError := rfl
@[simp] theorem clearStrobes_params (s : State) : (clearStrobes s).params = s.params := rfl
@[simp] theorem clearStrobes_mods (s : State) : (clearStrobes s).mods = s.mods := rfl
@[simp] theorem clearStrobes_symbol (s : State) : (clearStrobes s).symbol = s.symbol := rfl
@[simp] theorem clearStrobes_stream (s : State) : (clearStrobes s).stream = s.stream := rfl
@[simp] theorem clearStrobes_frame (s : State) : (clearStrobes s).frame = s.frame := rfl
@[simp] theorem clearStrobes_protocol (s : State) : (clearStrobes s).protocol = s.protocol := rfl
@[simp] theorem clearStrobes_activeValid (s : State) : (clearStrobes s).activeValid = s.activeValid := rfl
@[simp] theorem clearStrobes_activeRate (s : State) : (clearStrobes s).activeRate = s.activeRate := rfl
@[simp] theorem clearStrobes_chainedFlags (s : State) : (clearStrobes s).chainedFlags = s.chainedFlags := rfl
@[simp] theorem clearStrobes_frameOut (s : State) : (clearStrobes s).frameOut = s.frameOut := rfl
@[simp] theorem clearStrobes_sofConfirmed (s : State) :
    (clearStrobes s).sofConfirmed = false := rfl
@[simp] theorem clearStrobes_frameValid (s : State) :
    (clearStrobes s).frameValid = false := rfl
@[simp] theorem clearStrobes_windowBits (s : State) : (clearStrobes s).windowBits = s.windowBits := rfl
@[simp] theorem clearStrobes_port (s : State) : (clearStrobes s).port = s.port := rfl
@[simp] theorem clearStrobes_returned (s : State) : (clearStrobes s).returned = s.returned := rfl

/-! ## `raiseConfigError` -/

@[simp] theorem raiseConfigError_signalClock (s : State) : (raiseConfigError s).signalClock = s.signalClock := rfl
@[simp] theorem raiseConfigError_signalData (s : State) : (raiseConfigError s).signalData = s.signalData := rfl
@[simp] theorem raiseConfigError_powerAverage (s : State) : (raiseConfigError s).powerAverage = s.powerAverage := rfl
@[simp] theorem raiseConfigError_powerLevelThreshold (s : State) : (raiseConfigError s).powerLevelThreshold = s.powerLevelThreshold := rfl
@[simp] theorem raiseConfigError_sampleRate (s : State) : (raiseConfigError s).sampleRate = s.sampleRate := rfl
@[simp] theorem raiseConfigError_sampleTimeUnit (s : State) : (raiseConfigError s).sampleTimeUnit = s.sampleTimeUnit := rfl
@[simp] theorem raiseConfigError_minimumModulationThreshold (s : State) : (raiseConfigError s).minimumModulationThreshold = s.minimumModulationThreshold := rfl
@[simp] theorem raiseConfigError_maximumModulationThreshold (s : State) : (raiseConfigError s).maximumModulationThreshold = s.maximumModulationThreshold := rfl
@[simp] theorem raiseConfigError_configured (s : State) :
    (raiseConfigError s).configured = false := rfl
@[simp] theorem raiseConfigError_configError (s : State) :
    (raiseConfigError s).configError = true := rfl
@[simp] theorem raiseConfigError_params (s : State) : (raiseConfigError s).params = s.params := rfl
@[simp] theorem raiseConfigError_mods (s : State) : (raiseConfigError s).mods = s.mods := rfl
@[simp] theorem raiseConfigError_symbol (s : State) : (raiseConfigError s).symbol = s.symbol := rfl
@[simp] theorem raiseConfigError_stream (s : State) : (raiseConfigError s).stream = s.stream := rfl
@[simp] theorem raiseConfigError_frame (s : State) : (raiseConfigError s).frame = s.frame := rfl
@[simp] theorem raiseConfigError_protocol (s : State) : (raiseConfigError s).protocol = s.protocol := rfl
@[simp] theorem raiseConfigError_activeValid (s : State) : (raiseConfigError s).activeValid = s.activeValid := rfl
@[simp] theorem raiseConfigError_activeRate (s : State) : (raiseConfigError s).activeRate = s.activeRate := rfl
@[simp] theorem raiseConfigError_chainedFlags (s : State) : (raiseConfigError s).chainedFlags = s.chainedFlags := rfl
@[simp] theorem raiseConfigError_frameOut (s : State) : (raiseConfigError s).frameOut = s.frameOut := rfl
@[simp] theorem raiseConfigError_sofConfirmed (s : State) : (raiseConfigError s).sofConfirmed = s.sofConfirmed := rfl
@[simp] theorem raiseConfigError_frameValid (s : State) : (raiseConfigError s).frameValid = s.frameValid := rfl
@[simp] theorem raiseConfigError_windowBits (s : State) : (raiseConfigError s).windowBits = s.windowBits := rfl
@[simp] theorem raiseConfigError_port (s : State) : (raiseConfigError s).port = s.port := rfl
@[simp] theorem raiseConfigError_returned (s : State) : (raiseConfigError s).returned = s.returned := rfl

/-! ## `ingest` -/

@[simp] theorem ingest_signalClock (sample power : U32) (s : State) :
    (ingest sample power s).signalClock = s.signalClock + 1 := rfl
@[simp] theorem ingest_signalData (sample power : U32) (s : State) :
    (ingest sample power s).signalData = s.signalData.write (windowCell s (s.signalClock + 1)) sample := rfl
@[simp] theorem ingest_powerAverage (sample power : U32) (s : State) :
    (ingest sample power s).powerAverage = F32.ofBits power := rfl
@[simp] theorem ingest_powerLevelThreshold (sample power : U32) (s : State) : (ingest sample power s).powerLevelThreshold = s.powerLevelThreshold := rfl
@[simp] theorem ingest_sampleRate (sample power : U32) (s : State) : (ingest sample power s).sampleRate = s.sampleRate := rfl
@[simp] theorem ingest_sampleTimeUnit (sample power : U32) (s : State) : (ingest sample power s).sampleTimeUnit = s.sampleTimeUnit := rfl
@[simp] theorem ingest_minimumModulationThreshold (sample power : U32) (s : State) : (ingest sample power s).minimumModulationThreshold = s.minimumModulationThreshold := rfl
@[simp] theorem ingest_maximumModulationThreshold (sample power : U32) (s : State) : (ingest sample power s).maximumModulationThreshold = s.maximumModulationThreshold := rfl
@[simp] theorem ingest_configured (sample power : U32) (s : State) : (ingest sample power s).configured = s.configured := rfl
@[simp] theorem ingest_configError (sample power : U32) (s : State) : (ingest sample power s).configError = s.configError := rfl
@[simp] theorem ingest_params (sample power : U32) (s : State) : (ingest sample power s).params = s.params := rfl
@[simp] theorem ingest_mods (sample power : U32) (s : State) : (ingest sample power s).mods = s.mods := rfl
@[simp] theorem ingest_symbol (sample power : U32) (s : State) : (ingest sample power s).symbol = s.symbol := rfl
@[simp] theorem ingest_stream (sample power : U32) (s : State) : (ingest sample power s).stream = s.stream := rfl
@[simp] theorem ingest_frame (sample power : U32) (s : State) : (ingest sample power s).frame = s.frame := rfl
@[simp] theorem ingest_protocol (sample power : U32) (s : State) : (ingest sample power s).protocol = s.protocol := rfl
@[simp] theorem ingest_activeValid (sample power : U32) (s : State) : (ingest sample power s).activeValid = s.activeValid := rfl
@[simp] theorem ingest_activeRate (sample power : U32) (s : State) : (ingest sample power s).activeRate = s.activeRate := rfl
@[simp] theorem ingest_chainedFlags (sample power : U32) (s : State) : (ingest sample power s).chainedFlags = s.chainedFlags := rfl
@[simp] theorem ingest_frameOut (sample power : U32) (s : State) : (ingest sample power s).frameOut = s.frameOut := rfl
@[simp] theorem ingest_sofConfirmed (sample power : U32) (s : State) : (ingest sample power s).sofConfirmed = s.sofConfirmed := rfl
@[simp] theorem ingest_frameValid (sample power : U32) (s : State) : (ingest sample power s).frameValid = s.frameValid := rfl
@[simp] theorem ingest_windowBits (sample power : U32) (s : State) : (ingest sample power s).windowBits = s.windowBits := rfl
@[simp] theorem ingest_port (sample power : U32) (s : State) : (ingest sample power s).port = s.port := rfl
@[simp] theorem ingest_returned (sample power : U32) (s : State) : (ingest sample power s).returned = s.returned := rfl

/-! ## `resetModulation` -/

@[simp] theorem resetModulation_signalClock (s : State) : (resetModulation s).signalClock = s.signalClock := rfl
@[simp] theorem resetModulation_signalData (s : State) : (resetModulation s).signalData = s.signalData := rfl
@[simp] theorem resetModulation_powerAverage (s : State) : (resetModulation s).powerAverage = s.powerAverage := rfl
@[simp] theorem resetModulation_powerLevelThreshold (s : State) : (resetModulation s).powerLevelThreshold = s.powerLevelThreshold := rfl
@[simp] theorem resetModulation_sampleRate (s : State) : (resetModulation s).sampleRate = s.sampleRate := rfl
@[simp] theorem resetModulation_sampleTimeUnit (s : State) : (resetModulation s).sampleTimeUnit = s.sampleTimeUnit := rfl
@[simp] theorem resetModulation_minimumModulationThreshold (s : State) : (resetModulation s).minimumModulationThreshold = s.minimumModulationThreshold := rfl
@[simp] theorem resetModulation_maximumModulationThreshold (s : State) : (resetModulation s).maximumModulationThreshold = s.maximumModulationThreshold := rfl
@[simp] theorem resetModulation_configured (s : State) : (resetModulation s).configured = s.configured := rfl
@[simp] theorem resetModulation_configError (s : State) : (resetModulation s).configError = s.configError := rfl
@[simp] theorem resetModulation_params (s : State) : (resetModulation s).params = s.params := rfl
@[simp] theorem resetModulation_mods (s : State) :
    (resetModulation s).mods = ⟨s.mods.k106.resetTimes, s.mods.k212.resetTimes, s.mods.k424.resetTimes⟩ := rfl
@[simp] theorem resetModulation_symbol (s : State) :
    (resetModulation s).symbol = SymbolStatus.reset := rfl
@[simp] theorem resetModulation_stream (s : State) :
    (resetModulation s).stream = { s.stream with bytes := 0, data := 0, bits := 0 } := rfl
@[simp] theorem resetModulation_frame (s : State) :
    (resetModulation s).frame = { s.frame with frameType := .noFrame, frameStart := 0, frameEnd := 0 } := rfl
@[simp] theorem resetModulation_protocol (s : State) : (resetModulation s).protocol = s.protocol := rfl
@[simp] theorem resetModulation_activeValid (s : State) :
    (resetModulation s).activeValid = false := rfl
@[simp] theorem resetModulation_activeRate (s : State) :
    (resetModulation s).activeRate = .k106 := rfl
@[simp] theorem resetModulation_chainedFlags (s : State) : (resetModulation s).chainedFlags = s.chainedFlags := rfl
@[simp] theorem resetModulation_frameOut (s : State) : (resetModulation s).frameOut = s.frameOut := rfl
@[simp] theorem resetModulation_sofConfirmed (s : State) : (resetModulation s).sofConfirmed = s.sofConfirmed := rfl
@[simp] theorem resetModulation_frameValid (s : State) : (resetModulation s).frameValid = s.frameValid := rfl
@[simp] theorem resetModulation_windowBits (s : State) : (resetModulation s).windowBits = s.windowBits := rfl
@[simp] theorem resetModulation_port (s : State) : (resetModulation s).port = s.port := rfl
@[simp] theorem resetModulation_returned (s : State) : (resetModulation s).returned = s.returned := rfl

/-! ## `edgeOp` -/

@[simp] theorem edgeOp_signalClock (r : Rate) (s : State) : (edgeOp r s).signalClock = s.signalClock := rfl
@[simp] theorem edgeOp_signalData (r : Rate) (s : State) : (edgeOp r s).signalData = s.signalData := rfl
@[simp] theorem edgeOp_powerAverage (r : Rate) (s : State) : (edgeOp r s).powerAverage = s.powerAverage := rfl
@[simp] theorem edgeOp_powerLevelThreshold (r : Rate) (s : State) : (edgeOp r s).powerLevelThreshold = s.powerLevelThreshold := rfl
@[simp] theorem edgeOp_sampleRate (r : Rate) (s : State) : (edgeOp r s).sampleRate = s.sampleRate := rfl
@[simp] theorem edgeOp_sampleTimeUnit (r : Rate) (s : State) : (edgeOp r s).sampleTimeUnit = s.sampleTimeUnit := rfl
@[simp] theorem edgeOp_minimumModulationThreshold (r : Rate) (s : State) : (edgeOp r s).minimumModulationThreshold = s.minimumModulationThreshold := rfl
@[simp] theorem edgeOp_maximumModulationThreshold (r : Rate) (s : State) : (edgeOp r s).maximumModulationThreshold = s.maximumModulationThreshold := rfl
@[simp] theorem edgeOp_configured (r : Rate) (s : State) : (edgeOp r s).configured = s.configured := rfl
@[simp] theorem edgeOp_configError (r : Rate) (s : State) : (edgeOp r s).configError = s.configError := rfl
@[simp] theorem edgeOp_params (r : Rate) (s : State) : (edgeOp r s).params = s.params := rfl
@[simp] theorem edgeOp_mods (r : Rate) (s : State) :
    (edgeOp r s).mods = perRateSet s.mods r (updatedIntegrators r s) := rfl
@[simp] theorem edgeOp_symbol (r : Rate) (s : State) : (edgeOp r s).symbol = s.symbol := rfl
@[simp] theorem edgeOp_stream (r : Rate) (s : State) : (edgeOp r s).stream = s.stream := rfl
@[simp] theorem edgeOp_frame (r : Rate) (s : State) : (edgeOp r s).frame = s.frame := rfl
@[simp] theorem edgeOp_protocol (r : Rate) (s : State) : (edgeOp r s).protocol = s.protocol := rfl
@[simp] theorem edgeOp_activeValid (r : Rate) (s : State) : (edgeOp r s).activeValid = s.activeValid := rfl
@[simp] theorem edgeOp_activeRate (r : Rate) (s : State) : (edgeOp r s).activeRate = s.activeRate := rfl
@[simp] theorem edgeOp_chainedFlags (r : Rate) (s : State) : (edgeOp r s).chainedFlags = s.chainedFlags := rfl
@[simp] theorem edgeOp_frameOut (r : Rate) (s : State) : (edgeOp r s).frameOut = s.frameOut := rfl
@[simp] theorem edgeOp_sofConfirmed (r : Rate) (s : State) : (edgeOp r s).sofConfirmed = s.sofConfirmed := rfl
@[simp] theorem edgeOp_frameValid (r : Rate) (s : State) : (edgeOp r s).frameValid = s.frameValid := rfl
@[simp] theorem edgeOp_windowBits (r : Rate) (s : State) : (edgeOp r s).windowBits = s.windowBits := rfl
@[simp] theorem edgeOp_port (r : Rate) (s : State) : (edgeOp r s).port = s.port := rfl

/-! ## `listenHook` -/

@[simp] theorem listenHook_signalClock (s : State) : (listenHook s).signalClock = s.signalClock := rfl
@[simp] theorem listenHook_signalData (s : State) : (listenHook s).signalData = s.signalData := rfl
@[simp] theorem listenHook_powerAverage (s : State) : (listenHook s).powerAverage = s.powerAverage := rfl
@[simp] theorem listenHook_powerLevelThreshold (s : State) : (listenHook s).powerLevelThreshold = s.powerLevelThreshold := rfl
@[simp] theorem listenHook_sampleRate (s : State) : (listenHook s).sampleRate = s.sampleRate := rfl
@[simp] theorem listenHook_sampleTimeUnit (s : State) : (listenHook s).sampleTimeUnit = s.sampleTimeUnit := rfl
@[simp] theorem listenHook_minimumModulationThreshold (s : State) : (listenHook s).minimumModulationThreshold = s.minimumModulationThreshold := rfl
@[simp] theorem listenHook_maximumModulationThreshold (s : State) : (listenHook s).maximumModulationThreshold = s.maximumModulationThreshold := rfl
@[simp] theorem listenHook_configured (s : State) : (listenHook s).configured = s.configured := rfl
@[simp] theorem listenHook_configError (s : State) : (listenHook s).configError = s.configError := rfl
@[simp] theorem listenHook_params (s : State) : (listenHook s).params = s.params := rfl
@[simp] theorem listenHook_mods (s : State) : (listenHook s).mods = s.mods := rfl
@[simp] theorem listenHook_symbol (s : State) : (listenHook s).symbol = s.symbol := rfl
@[simp] theorem listenHook_stream (s : State) : (listenHook s).stream = s.stream := rfl
@[simp] theorem listenHook_frame (s : State) : (listenHook s).frame = s.frame := rfl
@[simp] theorem listenHook_protocol (s : State) : (listenHook s).protocol = s.protocol := rfl
@[simp] theorem listenHook_activeValid (s : State) : (listenHook s).activeValid = s.activeValid := rfl
@[simp] theorem listenHook_activeRate (s : State) : (listenHook s).activeRate = s.activeRate := rfl
@[simp] theorem listenHook_chainedFlags (s : State) : (listenHook s).chainedFlags = s.chainedFlags := rfl
@[simp] theorem listenHook_frameOut (s : State) : (listenHook s).frameOut = s.frameOut := rfl
@[simp] theorem listenHook_sofConfirmed (s : State) : (listenHook s).sofConfirmed = s.sofConfirmed := rfl
@[simp] theorem listenHook_frameValid (s : State) : (listenHook s).frameValid = s.frameValid := rfl
@[simp] theorem listenHook_windowBits (s : State) : (listenHook s).windowBits = s.windowBits := rfl
@[simp] theorem listenHook_port (s : State) : (listenHook s).port = s.port := rfl
@[simp] theorem listenHook_returned (s : State) :
    (listenHook s).returned = .listenNoFrame := rfl

/-! ## `sofConfirm` -/

@[simp] theorem sofConfirm_signalClock (s : State) : (sofConfirm s).signalClock = s.signalClock := rfl
@[simp] theorem sofConfirm_signalData (s : State) : (sofConfirm s).signalData = s.signalData := rfl
@[simp] theorem sofConfirm_powerAverage (s : State) : (sofConfirm s).powerAverage = s.powerAverage := rfl
@[simp] theorem sofConfirm_powerLevelThreshold (s : State) : (sofConfirm s).powerLevelThreshold = s.powerLevelThreshold := rfl
@[simp] theorem sofConfirm_sampleRate (s : State) : (sofConfirm s).sampleRate = s.sampleRate := rfl
@[simp] theorem sofConfirm_sampleTimeUnit (s : State) : (sofConfirm s).sampleTimeUnit = s.sampleTimeUnit := rfl
@[simp] theorem sofConfirm_minimumModulationThreshold (s : State) : (sofConfirm s).minimumModulationThreshold = s.minimumModulationThreshold := rfl
@[simp] theorem sofConfirm_maximumModulationThreshold (s : State) : (sofConfirm s).maximumModulationThreshold = s.maximumModulationThreshold := rfl
@[simp] theorem sofConfirm_configured (s : State) : (sofConfirm s).configured = s.configured := rfl
@[simp] theorem sofConfirm_configError (s : State) : (sofConfirm s).configError = s.configError := rfl
@[simp] theorem sofConfirm_params (s : State) : (sofConfirm s).params = s.params := rfl
@[simp] theorem sofConfirm_symbol (s : State) : (sofConfirm s).symbol = s.symbol := rfl
@[simp] theorem sofConfirm_stream (s : State) : (sofConfirm s).stream = s.stream := rfl
@[simp] theorem sofConfirm_protocol (s : State) : (sofConfirm s).protocol = s.protocol := rfl
@[simp] theorem sofConfirm_activeValid (s : State) :
    (sofConfirm s).activeValid = true := rfl
@[simp] theorem sofConfirm_activeRate (s : State) :
    (sofConfirm s).activeRate = .k106 := rfl
@[simp] theorem sofConfirm_chainedFlags (s : State) : (sofConfirm s).chainedFlags = s.chainedFlags := rfl
@[simp] theorem sofConfirm_frameOut (s : State) : (sofConfirm s).frameOut = s.frameOut := rfl
@[simp] theorem sofConfirm_sofConfirmed (s : State) :
    (sofConfirm s).sofConfirmed = true := rfl
@[simp] theorem sofConfirm_frameValid (s : State) : (sofConfirm s).frameValid = s.frameValid := rfl
@[simp] theorem sofConfirm_windowBits (s : State) : (sofConfirm s).windowBits = s.windowBits := rfl
@[simp] theorem sofConfirm_port (s : State) : (sofConfirm s).port = s.port := rfl
@[simp] theorem sofConfirm_returned (s : State) : (sofConfirm s).returned = s.returned := rfl

@[simp] theorem modOf_setMod_same (r : Rate) (m : ModulationStatus) (s : State) : modOf r (setMod r m s) = m := by
  simp [modOf]

theorem modOf_setMod_ne {r q : Rate} (m : ModulationStatus) (s : State) (h : q ≠ r) :
    modOf q (setMod r m s) = modOf q s := by
  simp [modOf, perRateGet_set_ne _ _ h]

@[simp] theorem paramsOf_setMod (r q : Rate) (m : ModulationStatus) (s : State) :
    paramsOf q (setMod r m s) = paramsOf q s := rfl

@[simp] theorem paramsOf_edgeOp (r q : Rate) (s : State) : paramsOf q (edgeOp r s) = paramsOf q s := rfl

/-- The samples an operation reads do not move with the detector registers. -/
@[simp] theorem sampleNow_setMod (r q : Rate) (m : ModulationStatus) (s : State) :
    sampleNow q (setMod r m s) = sampleNow q s := rfl

@[simp] theorem depth_setMod (r q : Rate) (m : ModulationStatus) (s : State) :
    depth q (setMod r m s) = depth q s := rfl

end Sys2Proof.Machine
end

