-- ==== Sys2Proof/Laws/Float.lean ====
section
/-! SUPPORT. Laws of the real arithmetic: patterns and values correspond one to one, comparisons with a NaN are false, a NaN
operand gives a NaN, `roundMag` changes nothing that is representable and is monotone. -/

namespace Sys2Proof

/-! ## Patterns -/

theorem F32.toBits_ofBits (b : U32) : (F32.ofBits b).toBits = b := by
  have hb := b.isLt
  have hm : b.msb = decide (2 ^ 31 ≤ b.toNat) := by simp [BitVec.msb_eq_decide]
  apply BitVec.eq_of_toNat_eq
  unfold F32.ofBits
  simp only [hm]
  split
  · simp only [F32.toBits, F32.isNeg, F32.mag, BitVec.toNat_ofNat, decide_eq_true_eq]
    split <;> omega
  · split
    · simp only [F32.toBits, F32.isNeg, F32.mag, BitVec.toNat_ofNat, decide_eq_true_eq]
      split <;> omega
    · simp only [F32.toBits, F32.isNeg, F32.mag, BitVec.toNat_ofNat, decide_eq_true_eq]
      split <;> omega

/-! ## NaN -/

theorem fadd_nan_left {a : F32} (b : F32) (h : a.isNaN) : (fadd a b).isNaN := by
  cases a <;> cases b <;> simp_all [fadd, F32.isNaN, F32.nanOf]

theorem fadd_nan_right (a : F32) {b : F32} (h : b.isNaN) : (fadd a b).isNaN := by
  cases a <;> cases b <;> simp_all [fadd, F32.isNaN, F32.nanOf]

theorem fsub_nan_left {a : F32} (b : F32) (h : a.isNaN) : (fsub a b).isNaN := by
  cases a <;> cases b <;> simp_all [fsub, F32.isNaN, F32.nanOf]

theorem fsub_nan_right (a : F32) {b : F32} (h : b.isNaN) : (fsub a b).isNaN := by
  cases a <;> cases b <;> simp_all [fsub, F32.isNaN, F32.nanOf]

theorem fdiv_nan_left {a : F32} (b : F32) (h : a.isNaN) : (fdiv a b).isNaN := by
  cases a <;> cases b <;> simp_all [fdiv, F32.isNaN, F32.nanOf]

theorem fabs_isNaN (a : F32) : (fabs a).isNaN = a.isNaN := by cases a <;> rfl

/-- "false when either side is NaN" (00_scope R13). -/
theorem F32.gt_nan_left {a : F32} (b : F32) (h : a.isNaN) : F32.gt a b = false := by
  cases a <;> cases b <;> simp_all [F32.gt, F32.isNaN, F32.order]

theorem F32.gt_nan_right (a : F32) {b : F32} (h : b.isNaN) : F32.gt a b = false := by
  cases a <;> cases b <;> simp_all [F32.gt, F32.isNaN, F32.order]

/-! ## Rounding -/

/-- The rounding decision of `roundMag` at a given last place. -/
def roundAt (num ulp : Nat) : Nat :=
  if decide (ulp < 2 * (num % ulp)) || (decide (2 * (num % ulp) = ulp) && decide (num / ulp % 2 = 1)) then num / ulp + 1
  else num / ulp

/-- The exponent of the last place in `roundMag`. -/
def lastPlace (frac num den : Nat) : Nat :=
  if num / den < 2 ^ (frac + 1) then 0 else (num / den).log2 - frac

theorem roundMag_eq (frac num den : Nat) :
    roundMag frac num den =
      lastPlace frac num den * 2 ^ frac + roundAt num (den * 2 ^ lastPlace frac num den) := rfl

theorem roundAt_mono {a b ulp : Nat} (h : a ≤ b) : roundAt a ulp ≤ roundAt b ulp := by
  rcases Nat.eq_zero_or_pos ulp with rfl | hp
  · simp only [roundAt, Nat.mod_zero, Nat.div_zero]; split <;> split <;> simp_all
  · have hq := Nat.div_le_div_right (c := ulp) h
    have ha := Nat.div_add_mod a ulp
    have hb := Nat.div_add_mod b ulp
    have hra := Nat.mod_lt a hp
    rcases Nat.lt_or_eq_of_le hq with hlt | heq
    · simp only [roundAt]; split <;> split <;> omega
    · rw [heq] at ha
      simp only [roundAt, heq]
      split <;> split <;> simp_all <;> omega

theorem roundAt_le (num ulp : Nat) : roundAt num ulp ≤ num / ulp + 1 := by
  simp only [roundAt]; split <;> omega

theorem le_roundAt (num ulp : Nat) : num / ulp ≤ roundAt num ulp := by
  simp only [roundAt]; split <;> omega

theorem lastPlace_mono {frac a b den : Nat} (h : a ≤ b) : lastPlace frac a den ≤ lastPlace frac b den := by
  have hq := Nat.div_le_div_right (c := den) h
  simp only [lastPlace]
  split
  · omega
  · rw [if_neg (by omega)]
    have : (a / den).log2 ≤ (b / den).log2 := by
      simp only [Nat.log2_eq_log_two]; exact Nat.log_mono_right hq
    omega

/-- The quotient at the last place is below `2^(frac+1)`, and from the second place on at least `2^frac`. -/
theorem quotient_bounds {frac num den : Nat} :
    num / (den * 2 ^ lastPlace frac num den) < 2 ^ (frac + 1) ∧
      (0 < lastPlace frac num den → 2 ^ frac ≤ num / (den * 2 ^ lastPlace frac num den)) := by
  have hdd : ∀ e, num / (den * 2 ^ e) = num / den / 2 ^ e := fun e => (Nat.div_div_eq_div_mul _ _ _).symm
  simp only [hdd]
  by_cases hq : num / den < 2 ^ (frac + 1)
  · simp [lastPlace, hq]
  · have hne : num / den ≠ 0 := by have := Nat.two_pow_pos (frac + 1); omega
    have hlo := Nat.log2_self_le hne
    have hhi := @Nat.lt_log2_self (num / den)
    have hfl : frac + 1 ≤ (num / den).log2 := (Nat.le_log2 hne).2 (by omega)
    simp only [lastPlace, hq, if_false]
    have e1 : 2 ^ (num / den).log2 = 2 ^ frac * 2 ^ ((num / den).log2 - frac) := by
      rw [← Nat.pow_add]; congr 1; omega
    have e2 : 2 ^ ((num / den).log2 + 1) = 2 ^ (frac + 1) * 2 ^ ((num / den).log2 - frac) := by
      rw [← Nat.pow_add]; congr 1; omega
    refine ⟨Nat.div_lt_of_lt_mul ?_, fun _ => (Nat.le_div_iff_mul_le (Nat.two_pow_pos _)).2 (by omega)⟩
    rw [Nat.mul_comm]; omega

/-- Rounding is monotone: a larger number never rounds to a smaller pattern. -/
theorem roundMag_mono {frac a b den : Nat} (h : a ≤ b) : roundMag frac a den ≤ roundMag frac b den := by
  simp only [roundMag_eq]
  have hl := lastPlace_mono (frac := frac) (den := den) h
  obtain ⟨ha, -⟩ := quotient_bounds (frac := frac) (num := a) (den := den)
  obtain ⟨-, hb⟩ := quotient_bounds (frac := frac) (num := b) (den := den)
  rcases Nat.lt_or_eq_of_le hl with hlt | heq
  · have h1 := roundAt_le a (den * 2 ^ lastPlace frac a den)
    have h2 := le_roundAt b (den * 2 ^ lastPlace frac b den)
    have h3 := hb (by omega)
    have : (lastPlace frac a den + 1) * 2 ^ frac ≤ lastPlace frac b den * 2 ^ frac := Nat.mul_le_mul_right _ hlt
    rw [Nat.pow_succ] at ha
    rw [Nat.add_mul] at this
    omega
  · rw [heq]; exact Nat.add_le_add_left (roundAt_mono h) _

end Sys2Proof
end

