-- ==== Sys2Proof/Laws/Memory.lean ====
section
/-! SUPPORT. The laws of the cell memories: a write is read back and leaves every other cell alone, keeps the canonical form,
and lists no cell but the old ones and its own. -/

namespace Sys2Proof.Machine

variable {w : Nat}

@[simp] theorem Memory.read_nil (a : Nat) : Memory.read ([] : Memory w) a = 0 := rfl

theorem Memory.wf_nil : Memory.wf ([] : Memory w) := by simp [Memory.wf]

theorem Memory.wf_tail {c : Nat × BitVec w} {m : Memory w} (h : Memory.wf (c :: m)) : Memory.wf m :=
  ⟨(List.pairwise_cons.1 h.1).2, fun d hd => h.2 d (List.mem_cons_of_mem _ hd)⟩

theorem Memory.head_lt {c d : Nat × BitVec w} {m : Memory w} (h : Memory.wf (c :: m)) (hd : d ∈ m) : c.1 < d.1 :=
  (List.pairwise_cons.1 h.1).1 d hd

/-- A cell below every listed one reads as unlisted. -/
theorem Memory.read_of_lt {m : Memory w} {a : Nat} (h : ∀ c ∈ m, a < c.1) : m.read a = 0 := by
  cases m with
  | nil => rfl
  | cons c rest =>
    have : a < c.1 := h c (by simp)
    obtain ⟨k, v⟩ := c
    simp only [Memory.read]
    rw [if_neg (by simp at this; omega), if_pos this]; rfl

/-- A write lists only its own cell beside the cells listed before. -/
theorem Memory.mem_write {m : Memory w} {a : Nat} {v : BitVec w} {c : Nat × BitVec w} (h : c ∈ m.write a v) :
    c ∈ m ∨ (c = (a, v) ∧ v ≠ 0) := by
  induction m with
  | nil =>
    simp only [Memory.write] at h
    split at h <;> simp_all [Memory.unlisted]
  | cons d rest ih =>
    obtain ⟨k, u⟩ := d
    simp only [Memory.write] at h
    split at h
    · split at h
      · exact .inl h
      · rcases List.mem_cons.1 h with rfl | h
        · exact .inr ⟨rfl, ‹_›⟩
        · exact .inl h
    · split at h
      · split at h
        · exact .inl (List.mem_cons_of_mem _ h)
        · rcases List.mem_cons.1 h with rfl | h
          · exact .inr ⟨by simp_all, ‹_›⟩
          · exact .inl (List.mem_cons_of_mem _ h)
      · rcases List.mem_cons.1 h with rfl | h
        · exact .inl (by simp)
        · exact (ih h).imp (List.mem_cons_of_mem _) id

theorem Memory.below_write {m : Memory w} {n a : Nat} (v : BitVec w) (h : m.below n) (ha : a < n) :
    (m.write a v).below n := by
  intro c hc
  rcases Memory.mem_write hc with hc | ⟨rfl, -⟩
  · exact h c hc
  · exact ha

theorem Memory.wf_write {m : Memory w} (a : Nat) (v : BitVec w) (h : m.wf) : (m.write a v).wf := by
  refine ⟨?_, fun c hc => ?_⟩
  · induction m with
    | nil => simp only [Memory.write]; split <;> simp
    | cons d rest ih =>
      obtain ⟨k, u⟩ := d
      have hlt : ∀ c ∈ rest, k < c.1 := fun c hc => Memory.head_lt h hc
      have hrest := Memory.wf_tail h
      simp only [Memory.write]
      split
      · split
        · exact h.1
        · refine List.pairwise_cons.2 ⟨fun c hc => ?_, h.1⟩
          rcases List.mem_cons.1 hc with rfl | hc
          · assumption
          · exact Nat.lt_trans ‹_› (hlt c hc)
      · split
        · split
          · exact hrest.1
          · exact List.pairwise_cons.2 ⟨hlt, hrest.1⟩
        · refine List.pairwise_cons.2 ⟨fun c hc => ?_, ih hrest⟩
          rcases Memory.mem_write hc with hc | ⟨rfl, -⟩
          · exact hlt c hc
          · simp only; omega
  · rcases Memory.mem_write hc with hc | ⟨rfl, hv⟩
    · exact h.2 c hc
    · exact hv

/-- Read after write. -/
theorem Memory.read_write {m : Memory w} (h : m.wf) (a b : Nat) (v : BitVec w) :
    (m.write a v).read b = if b = a then v else m.read b := by
  induction m with
  | nil =>
    by_cases hv : v = Memory.unlisted w <;> by_cases hb : b = a <;> simp [Memory.write, Memory.read, hv, hb] <;> rfl
  | cons d rest ih =>
    obtain ⟨k, u⟩ := d
    have hlt : ∀ c ∈ rest, k < c.1 := fun c hc => Memory.head_lt h hc
    have ih := ih (Memory.wf_tail h)
    have low : ∀ x, x ≤ k → Memory.read rest x = Memory.unlisted w := fun x hx =>
      Memory.read_of_lt fun c hc => Nat.lt_of_le_of_lt hx (hlt c hc)
    rcases Nat.lt_trichotomy a k with hak | hak | hak
    · have hlow : b = a → Memory.read rest b = Memory.unlisted w := fun e => low b (by omega)
      by_cases hv : v = Memory.unlisted w <;> simp only [Memory.write, Memory.read, hak, hv, if_true, if_false] <;>
        split_ifs <;> first | rfl | omega
    · subst hak
      by_cases hv : v = Memory.unlisted w <;>
        simp only [Memory.write, Memory.read, hv, Nat.lt_irrefl, if_true, if_false] <;> grind
    · have h1 : ¬ a < k := by omega
      have h2 : ¬ a = k := by omega
      simp only [Memory.write, Memory.read, h1, h2, ih, if_false]
      grind

theorem Memory.read_write_same {m : Memory w} (h : m.wf) (a : Nat) (v : BitVec w) : (m.write a v).read a = v := by
  simp [Memory.read_write h]

theorem Memory.read_write_other {m : Memory w} (h : m.wf) {a b : Nat} (v : BitVec w) (hb : b ≠ a) :
    (m.write a v).read b = m.read b := by
  simp [Memory.read_write h, hb]

/-! ## The window and the buffer -/

theorem windowCell_lt (s : State) (i : Time) : windowCell s i < windowLength s :=
  Nat.mod_lt _ (Nat.two_pow_pos _)

theorem windowOk_ingest (a b : U32) {s : State} (h : windowOk s) : windowOk (ingest a b s) :=
  ⟨Memory.wf_write _ _ h.1, Memory.below_write _ h.2 (windowCell_lt s _)⟩

/-- After `INGEST` every index reads as before but those of the cell of the new clock, which read the sample. -/
theorem winRead_ingest (a b : U32) {s : State} (h : s.signalData.wf) (i : Time) :
    winRead (ingest a b s) i =
      if windowCell s i = windowCell s (s.signalClock + 1) then F32.ofBits a else winRead s i := by
  show F32.ofBits ((s.signalData.write (windowCell s (s.signalClock + 1)) a).read (windowCell s i)) = _
  rw [Memory.read_write h]
  by_cases hc : windowCell s i = windowCell s (s.signalClock + 1)
  · rw [if_pos hc, if_pos hc]
  · rw [if_neg hc, if_neg hc]; rfl

/-- What `BufPush` does when it goes on (20_memory R90). -/
theorem bufPush_next {v : Byte} {s t : State} (h : bufPush v s = .next t) :
    s.stream.bytes.toNat < bufferCells ∧
      t = { s with stream := { s.stream with
        buffer := s.stream.buffer.write s.stream.bytes.toNat v, bytes := s.stream.bytes + 1 } } := by
  unfold bufPush at h
  split at h
  · exact ⟨‹_›, by cases h; rfl⟩
  · cases h

theorem payload_length (s : State) : (payload s).length = s.stream.bytes.toNat := by simp [payload]

end Sys2Proof.Machine
end

