-- ==== Sys2Proof/Laws/Ops.lean ====
section
/-! SUPPORT. What each shared operation can do, said once: the outcomes of `andThen`, `bufPush`, `finalise`, `terminate`, the
registers the search and the tracker touch, and the ways an `SMP` can go. A proof cites these and unfolds nothing. -/

namespace Sys2Proof.Machine

/-! ## Outcomes -/

@[simp] theorem andThen_next (s : State) (f : State → Result) : andThen (.next s) f = f s := rfl

/-- A sequence answers a next state exactly when its first part does and its second part does from there. -/
theorem andThen_eq_next {r : Result} {f : State → Result} {t : State} :
    andThen r f = .next t ↔ ∃ s, r = .next s ∧ f s = .next t := by
  cases r <;> simp [andThen]

/-! ## The framer -/

/-- The state after `FPUSH` on a buffer that is not full (44_bit_byte_framer R242). -/
def pushed (s : State) : State :=
  { s with stream :=
    { buffer := s.stream.buffer.write s.stream.bytes.toNat s.stream.data, bytes := s.stream.bytes + 1, data := 0, bits := 0 } }

theorem pushByte_of_lt {s : State} (h : s.stream.bytes.toNat < bufferCells) : pushByte s = .next (pushed s) := by
  simp [pushByte, bufPush, h, pushed]

theorem pushByte_eq_next {s t : State} (h : pushByte s = .next t) :
    s.stream.bytes.toNat < bufferCells ∧ t = pushed s := by
  by_cases hb : s.stream.bytes.toNat < bufferCells
  · rw [pushByte_of_lt hb] at h; cases h; exact ⟨hb, rfl⟩
  · simp [pushByte, bufPush, hb, andThen] at h

/-- The state after `FIN` (44_bit_byte_framer R245). -/
def finalised (trunc : Bool) (s : State) : State :=
  { classify (builtRecord trunc s) { s with frame := { s.frame with frameEnd := s.symbol.endAt } } with frameValid := true }

theorem finalise_of_le {trunc : Bool} {s : State} (h : s.stream.bytes.toNat ≤ bufferCells) :
    finalise trunc s = .next (finalised trunc s) := by
  simp only [finalise, h, if_true]; rfl

/-- The state after `FTERM` (44_bit_byte_framer R243). -/
def terminated (trunc : Bool) (s : State) : State :=
  resetModulation (if s.stream.bytes = 0 then s else finalised trunc s)

theorem terminate_of_le {trunc : Bool} {s : State} (h : s.stream.bytes.toNat ≤ bufferCells) :
    terminate trunc s = .next (terminated trunc s) := by
  unfold terminate terminated
  split
  · rfl
  · rw [finalise_of_le h]; rfl

theorem terminate_eq_next {trunc : Bool} {s t : State} (h : terminate trunc s = .next t) :
    s.stream.bytes.toNat ≤ bufferCells ∧ t = terminated trunc s := by
  by_cases hb : s.stream.bytes.toNat ≤ bufferCells
  · rw [terminate_of_le hb] at h; cases h; exact ⟨hb, rfl⟩
  · unfold terminate at h
    split at h
    · rename_i hz; rw [hz] at hb; exact absurd (by decide) hb
    · simp [finalise, hb, andThen] at h

/-- A terminator leaves a searching block with an empty framer (44_bit_byte_framer R243, 47_reset_and_dispatch R295). -/
theorem terminated_searches (trunc : Bool) (s : State) :
    (terminated trunc s).activeValid = false ∧ (terminated trunc s).activeRate = .k106 ∧
    (terminated trunc s).stream.bits = 0 ∧ (terminated trunc s).stream.bytes = 0 ∧
    (terminated trunc s).mods.k106.searchStage = .beginStage :=
  ⟨rfl, rfl, rfl, rfl, rfl⟩

/-! ## `EDGE` writes the two integrators of its rate -/

theorem modOf_edgeOp_same (r : Rate) (s : State) : modOf r (edgeOp r s) = updatedIntegrators r s := perRateGet_set_same _ _ _

theorem modOf_edgeOp_other {r q : Rate} (h : q ≠ r) (s : State) : modOf q (edgeOp r s) = modOf q s := by
  cases q <;> cases r <;> first | rfl | exact absurd rfl h

/-! ## The classifier and the finalised frame -/

/-- `CLS` writes `protocol`, `frame`, `chainedFlags` and `frameOut`, and of `protocol` only with the defaults. -/
theorem classify_shape (f : FrameRecord) (s : State) :
    ∃ fr ps c, classify f s = { s with frame := fr, protocol := ps, chainedFlags := c, frameOut := classifiedRecord f c } ∧
      (ps = s.protocol ∨ ps = protocolDefaults s.sampleTimeUnit) ∧ (c = s.chainedFlags ∨ c = 0) ∧
      fr.lastFrameEnd = s.frame.frameEnd := by
  cases hr : isReqb f <;> cases hf : f.frameType <;>
    simp only [classify, applyClass, hr, openListenWindow, closeListenFrame, reloadWaiting, hf, recordFrameEnd, if_true,
      if_false, Bool.false_eq_true, reduceCtorEq]
  all_goals first
    | exact ⟨_, _, _, rfl, .inl rfl, .inl rfl, rfl⟩
    | exact ⟨_, _, _, rfl, .inr rfl, .inr rfl, rfl⟩

theorem finalised_shape (trunc : Bool) (s : State) :
    ∃ fr ps c, finalised trunc s = { s with
        frame := fr, protocol := ps, chainedFlags := c, frameOut := classifiedRecord (builtRecord trunc s) c, frameValid := true } ∧
      (ps = s.protocol ∨ ps = protocolDefaults s.sampleTimeUnit) ∧ (c = s.chainedFlags ∨ c = 0) ∧
      fr.lastFrameEnd = s.symbol.endAt := by
  obtain ⟨fr, ps, c, h, h1, h2, h3⟩ :=
    classify_shape (builtRecord trunc s) { s with frame := { s.frame with frameEnd := s.symbol.endAt } }
  refine ⟨fr, ps, c, ?_, h1, h2, h3⟩
  rw [finalised, h]

/-! ## The search: every operation writes rate 0 alone, and in it only the search and symbol registers -/

/-- What a search operation may make of the rate's registers. -/
def SameIntegrators (m m' : ModulationStatus) : Prop :=
  m'.filterIntegrate = m.filterIntegrate ∧ m'.detectIntegrate = m.detectIntegrate ∧ m'.phaseIntegrate = m.phaseIntegrate ∧
    m'.searchDeepValue = m.searchDeepValue

theorem SameIntegrators.refl (m : ModulationStatus) : SameIntegrators m m := ⟨rfl, rfl, rfl, rfl⟩

theorem SameIntegrators.trans {a b c : ModulationStatus} (h : SameIntegrators a b) (k : SameIntegrators b c) :
    SameIntegrators a c :=
  ⟨k.1.trans h.1, k.2.1.trans h.2.1, k.2.2.1.trans h.2.2.1, k.2.2.2.trans h.2.2.2⟩

/-- A search operation that confirms nothing: only rate 0 and the returned value change, and the stage stays lawful. -/
def SearchOnly (s t : State) : Prop :=
  ∃ m x, t = { s with mods := { s.mods with k106 := m }, returned := x } ∧ SameIntegrators s.mods.k106 m ∧
    (s.mods.k106.searchStage ≠ .reservedStage → m.searchStage ≠ .reservedStage)

theorem noDetection_searchOnly (s : State) : SearchOnly s (noDetection s) :=
  ⟨s.mods.k106, _, rfl, .refl _, id⟩

theorem abort_searchOnly (s : State) : SearchOnly s (noDetection (sofAbort s)) :=
  ⟨s.mods.k106.abortSearch, _, rfl, ⟨rfl, rfl, rfl, rfl⟩, fun _ => by simp [ModulationStatus.abortSearch]⟩

/-- A peak test writes the peak's three registers. -/
theorem beginPeak_shape (s : State) : ∃ e p d, beginPeak s =
    { s.mods.k106 with detectorPeek := e, searchPeakTime := p, searchEndTime := d } := by
  simp only [beginPeak]; split
  · exact ⟨_, _, _, rfl⟩
  · exact ⟨s.mods.k106.detectorPeek, s.mods.k106.searchPeakTime, s.mods.k106.searchEndTime, rfl⟩

theorem idlePeak_shape (s : State) : ∃ e p d, idlePeak s =
    { s.mods.k106 with detectorPeek := e, searchPeakTime := p, searchEndTime := d } := by
  simp only [idlePeak]; split
  · exact ⟨_, _, _, rfl⟩
  · exact ⟨s.mods.k106.detectorPeek, s.mods.k106.searchPeakTime, s.mods.k106.searchEndTime, rfl⟩

theorem endPeak_shape (s : State) : ∃ e p d, endPeak s =
    { s.mods.k106 with detectorPeek := e, searchPeakTime := p, searchEndTime := d } := by
  simp only [endPeak]; split
  · exact ⟨_, _, _, rfl⟩
  · exact ⟨s.mods.k106.detectorPeek, s.mods.k106.searchPeakTime, s.mods.k106.searchEndTime, rfl⟩

theorem sofBegin_searchOnly (s : State) : SearchOnly s (sofBegin s) := by
  obtain ⟨e, p, d, h⟩ := beginPeak_shape s
  refine ⟨_, _, rfl, ?_⟩
  simp only [beginDeadline, h]
  split
  · split
    · exact ⟨⟨rfl, rfl, rfl, rfl⟩, fun _ => by simp [ModulationStatus.openWindow]⟩
    · exact ⟨⟨rfl, rfl, rfl, rfl⟩, id⟩
  · exact ⟨⟨rfl, rfl, rfl, rfl⟩, id⟩

theorem sofIdle_searchOnly (s : State) : SearchOnly s (sofIdle s) := by
  obtain ⟨e, p, d, h⟩ := idlePeak_shape s
  unfold sofIdle
  split
  · exact abort_searchOnly s
  · simp only [idleDeadline, h]
    split
    · split
      · exact ⟨_, _, rfl, ⟨rfl, rfl, rfl, rfl⟩, fun _ => by simp [ModulationStatus.openWindow]⟩
      · exact ⟨_, _, rfl, ⟨rfl, rfl, rfl, rfl⟩, fun _ => by simp [ModulationStatus.abortSearch]⟩
    · exact ⟨_, _, rfl, ⟨rfl, rfl, rfl, rfl⟩, id⟩

/-- A search operation that confirms a SOF. -/
def SearchConfirms (s t : State) : Prop :=
  ∃ m fs x, t = { s with
      mods := { s.mods with k106 := m }
      frame := { s.frame with
        frameType := .pollFrame, symbolRate := s.params.k106.symbolsPerSecond, frameStart := fs, frameEnd := 0 }
      activeValid := true, activeRate := .k106, sofConfirmed := true, returned := x } ∧
    SameIntegrators s.mods.k106 m ∧ m.searchStage = s.mods.k106.searchStage

theorem sofConfirm_confirms (s : State) : SearchConfirms s (sofConfirm s) :=
  ⟨_, _, _, rfl, ⟨rfl, rfl, rfl, rfl⟩, rfl⟩

theorem sofEnd_cases (s : State) : SearchOnly s (sofEnd s) ∨ SearchConfirms s (sofEnd s) := by
  obtain ⟨e, p, d, h⟩ := endPeak_shape s
  simp only [sofEnd, h]
  split
  · split
    · exact .inr ⟨_, _, _, rfl, ⟨rfl, rfl, rfl, rfl⟩, rfl⟩
    · exact .inl ⟨_, _, rfl, ⟨rfl, rfl, rfl, rfl⟩, fun _ => by simp [ModulationStatus.abortSearch]⟩
  · exact .inl ⟨_, _, rfl, ⟨rfl, rfl, rfl, rfl⟩, id⟩

/-! ## The tracker -/

/-- The tracker writes the times and the peak of one rate, and the last symbol. -/
theorem beforeDecision_same (r : Rate) (s : State) :
    SameIntegrators (modOf r s) (beforeDecision r s) ∧ (beforeDecision r s).searchStage = (modOf r s).searchStage := by
  unfold beforeDecision predict resync
  dsimp only
  split <;> split <;> exact ⟨⟨rfl, rfl, rfl, rfl⟩, rfl⟩

theorem track_shape (s : State) : ∃ m sym x, track s =
      { s with mods := perRateSet s.mods s.activeRate m, symbol := sym, returned := x } ∧
    SameIntegrators (modOf s.activeRate s) m ∧ m.searchStage = (modOf s.activeRate s).searchStage ∧
    (producesSymbol s = true → sym.pattern = .patternL ∨ sym.pattern = .patternH) ∧
    (producesSymbol s = false → sym = s.symbol) := by
  have hb := beforeDecision_same s.activeRate s
  unfold track trackRate producesSymbol
  dsimp only
  split
  · rename_i hd
    refine ⟨_, _, _, rfl, hb.1, hb.2, fun _ => ?_, fun h => by rw [hd] at h; cases h⟩
    simp only [decidedSymbol]; split <;> simp
  · rename_i hd
    exact ⟨_, _, _, rfl, hb.1, hb.2, fun h => absurd h hd, fun _ => rfl⟩

/-! ## The sample step -/

/-- What `SMP` works on: the sample stored, the strobes cleared. -/
def sampled (a b : U32) (s : State) : State := clearStrobes (ingest a b s)

/-- The state `EDGE` leaves in an `SMP`. -/
def edged (a b : U32) (s : State) : State := edgeOp (stepRate s) (sampled a b s)

/-- The block processes samples: it is configured and has not failed (47_reset_and_dispatch R291). -/
def running (s : State) : Bool := s.configured && !s.configError

theorem decodeSeq_tracking : ∀ g o s1 s0 : Bool, decodeSeq (packKey true g o s1 s0) = .trk := by decide

theorem decodeSeq_searching : ∀ g o s1 s0 : Bool, decodeSeq (packKey false g o s1 s0) ≠ .trk := by decide

/-- An `SMP` of a block that does not run. -/
theorem execSmp_idle {a b : U32} {s : State} (h : running s = false) : execSmp a b s = .next (sampled a b s) := by
  unfold execSmp
  show (if running s = true then _ else _) = _
  rw [h]; rfl

/-- An `SMP` of a block that tracks. -/
theorem execSmp_tracking {a b : U32} {s : State} (h : running s = true) (hv : s.activeValid = true) :
    execSmp a b s = andThen (trackAndFrame (edged a b s)) fun t => .next (returning .nothing t) := by
  have hs : selectsListen (edged a b s) = false := by
    show (!s.activeValid && s.frame.frameType == .listenFrame) = false
    rw [hv]; rfl
  have hk : decodeSeq (seqKey (stepRate s) (edged a b s)) = .trk := by
    show decodeSeq (packKey s.activeValid _ _ _ _) = _
    rw [hv]; exact decodeSeq_tracking _ _ _ _
  unfold execSmp
  show (if running s = true then andThen (coreStep (sampled a b s)) _ else _) = _
  rw [h]
  show andThen (if selectsListen (edged a b s) = true then _ else runSeq (decodeSeq (seqKey (stepRate s) (edged a b s))) _) _ = _
  rw [hs, hk]; rfl

/-- An `SMP` of a block that searches. -/
theorem execSmp_searching {a b : U32} {s : State} (h : running s = true) (hv : s.activeValid = false)
    (hl : s.frame.frameType ≠ .listenFrame) :
    execSmp a b s = andThen (runSeq (decodeSeq (seqKey .k106 (edged a b s))) (edged a b s)) fun t =>
      .next (returning .nothing t) := by
  have hs : selectsListen (edged a b s) = false := by
    show (!s.activeValid && s.frame.frameType == .listenFrame) = false
    simp [hl]
  have hr : stepRate s = .k106 := by unfold stepRate; rw [hv]; rfl
  unfold execSmp
  show (if running s = true then andThen (coreStep (sampled a b s)) _ else _) = _
  rw [h]
  show andThen (if selectsListen (edged a b s) = true then _ else runSeq (decodeSeq (seqKey (stepRate s) (edged a b s))) _) _ = _
  rw [hs, hr]; rfl

/-- An `SMP` in the state that selects the listen hook. -/
theorem execSmp_listen {a b : U32} {s : State} (h : running s = true) (hv : s.activeValid = false)
    (hl : s.frame.frameType = .listenFrame) :
    execSmp a b s = .next (returning .nothing (edged a b s)) := by
  have hs : selectsListen (edged a b s) = true := by
    show (!s.activeValid && s.frame.frameType == .listenFrame) = true
    rw [hv, hl]; rfl
  unfold execSmp
  show (if running s = true then andThen (coreStep (sampled a b s)) _ else _) = _
  rw [h]
  show andThen (if selectsListen (edged a b s) = true then _ else _) _ = _
  rw [hs]; rfl

/-- The SEQ key of a searching block never selects `TRK`. -/
theorem searching_key {s : State} (hv : s.activeValid = false) (r : Rate) : decodeSeq (seqKey r s) ≠ .trk := by
  unfold seqKey; rw [hv]; exact decodeSeq_searching _ _ _ _

/-- What the framer can do with a symbol. -/
inductive Framed (op : SymOp) (s t : State) : Prop
  | ends (trunc : Bool) (hb : s.stream.bytes.toNat ≤ bufferCells) (ht : t = terminated trunc s)
      (hop : trunc = false ↔ op = .feof) (hn : op ≠ .fstart ∧ op ≠ .fdata ∧ op ≠ .fpush)
  | starts (hop : op = .fstart) (ht : t = { s with stream := { s.stream with bits := 1 } })
  | data (hop : op = .fdata) (ht : t = { s with stream := { s.stream with data := shiftedData s, bits := s.stream.bits + 1 } })
  | pushes (hop : op = .fpush) (hb : s.stream.bytes.toNat < bufferCells) (ht : t = pushed s)

theorem runSym_cases {op : SymOp} {s t : State} (h : runSym op s = .next t) : Framed op s t := by
  cases op
  case fstart => cases h; exact .starts rfl rfl
  case fdata => cases h; exact .data rfl rfl
  case fpush => obtain ⟨hb, ht⟩ := pushByte_eq_next h; exact .pushes rfl hb ht
  case feof =>
    obtain ⟨hb, ht⟩ := terminate_eq_next h
    exact .ends false hb ht (by simp) (by simp)
  all_goals
    obtain ⟨hb, ht⟩ := terminate_eq_next h
    exact .ends true hb ht (by simp) (by simp)

/-- Every way an `SMP` can go, as the state it leaves. -/
inductive Sampled (a b : U32) (s : State) : State → Prop
  | idle (h : running s = false) : Sampled a b s (sampled a b s)
  | listen (h : running s = true) (hv : s.activeValid = false) (hl : s.frame.frameType = .listenFrame) :
      Sampled a b s (returning .nothing (edged a b s))
  | search (h : running s = true) (hv : s.activeValid = false) (hl : s.frame.frameType ≠ .listenFrame) {t : State}
      (ht : SearchOnly (edged a b s) t) : Sampled a b s (returning .nothing t)
  | confirm (h : running s = true) (hv : s.activeValid = false) (hl : s.frame.frameType ≠ .listenFrame) {t : State}
      (hk : s.mods.k106.searchStage = .endStage) (ht : SearchConfirms (edged a b s) t) : Sampled a b s (returning .nothing t)
  | noSymbol (h : running s = true) (hv : s.activeValid = true) (hp : producesSymbol (edged a b s) = false) :
      Sampled a b s (returning .nothing (track (edged a b s)))
  | symbol (h : running s = true) (hv : s.activeValid = true) (hp : producesSymbol (edged a b s) = true) {t : State}
      (ht : Framed (decodeSym (symKey (track (edged a b s)))) (track (edged a b s)) t) : Sampled a b s (returning .nothing t)

theorem decodeSeq_sofe : ∀ a g o s1 s0 : Bool, decodeSeq (packKey a g o s1 s0) = .sofe → s1 = true ∧ s0 = false := by decide

theorem execSmp_cases {a b : U32} {s t : State} (h : execSmp a b s = .next t) : Sampled a b s t := by
  cases hr : running s
  · rw [execSmp_idle hr] at h; cases h; exact .idle hr
  · cases hv : s.activeValid
    · by_cases hl : s.frame.frameType = .listenFrame
      · rw [execSmp_listen hr hv hl] at h; cases h; exact .listen hr hv hl
      · rw [execSmp_searching hr hv hl, andThen_eq_next] at h
        obtain ⟨u, hu, ht⟩ := h
        cases ht
        have hne := searching_key (s := edged a b s) hv .k106
        have hstage : decodeSeq (seqKey .k106 (edged a b s)) = .sofe → s.mods.k106.searchStage = .endStage := by
          intro hk
          obtain ⟨h1, h0⟩ := decodeSeq_sofe _ _ _ _ _ hk
          have hst : (edged a b s).mods.k106.searchStage = s.mods.k106.searchStage := by
            unfold edged edgeOp; cases stepRate s <;> rfl
          rw [← hst]
          cases hc : (edged a b s).mods.k106.searchStage <;> rw [hc] at h1 h0 <;> first | rfl | (revert h1 h0; decide)
        revert hu hne hstage
        cases decodeSeq (seqKey .k106 (edged a b s)) <;> intro hu hne hstage
        case sofhold => cases hu; exact .search hr hv hl (noDetection_searchOnly _)
        case sofovr => cases hu; exact .search hr hv hl (abort_searchOnly _)
        case sofb => cases hu; exact .search hr hv hl (sofBegin_searchOnly _)
        case sofi => cases hu; exact .search hr hv hl (sofIdle_searchOnly _)
        case sofe =>
          cases hu
          rcases sofEnd_cases (edged a b s) with hs | hs
          · exact .search hr hv hl hs
          · exact .confirm hr hv hl (hstage rfl) hs
        case sofx => cases hu; exact .search hr hv hl (abort_searchOnly _)
        case trk => exact absurd rfl hne
    · rw [execSmp_tracking hr hv, andThen_eq_next] at h
      obtain ⟨u, hu, ht⟩ := h
      cases ht
      change (if producesSymbol (edged a b s) = true then
        runSym (decodeSym (symKey (track (edged a b s)))) (track (edged a b s)) else .next (track (edged a b s))) = _ at hu
      cases hp : producesSymbol (edged a b s)
      · rw [hp] at hu; cases hu; exact .noSymbol hr hv hp
      · rw [hp] at hu; exact .symbol hr hv hp (runSym_cases hu)

/-- The registers `edged` keeps: all but the clock, the window, the power average, one rate's integrators, the strobes and the
returned value. -/
theorem edged_shape (a b : U32) (s : State) : ∃ m x, edged a b s =
      { s with
        signalClock := s.signalClock + 1, signalData := (ingest a b s).signalData, powerAverage := F32.ofBits b
        mods := perRateSet s.mods (stepRate s) m, sofConfirmed := false, frameValid := false, returned := x } ∧
    m = { modOf (stepRate s) s with filterIntegrate := m.filterIntegrate, detectIntegrate := m.detectIntegrate } :=
  ⟨_, _, rfl, rfl⟩

end Sys2Proof.Machine
end

