-- ==== Sys2Proof/Tests/Slice0.lean ====
section
/-! SUPPORT. The model's own tests: words, tables and single steps with results taken from the spec (each test names its vector of
95_test_vectors or its rule), and for every statement with hypotheses a state that meets them. -/

namespace Sys2Proof.Tests

open Sys2Proof Sys2Proof.Machine

set_option Elab.async false

/-! ## Helpers -/

/-- Does the operation answer a next state of which `p` holds? -/
def after (r : Result) (p : State → Bool) : Bool :=
  match r with
  | .next t => p t
  | .fault _ => false
  | .refused _ => false

/-- A configured block that searches; `m` are the registers of rate 0. -/
def searching (m : ModulationStatus) : State :=
  { State.reset with configured := true, mods := { State.reset.mods with k106 := m } }

/-- A configured block that tracks, its framer at `(bits, data, bytes)` and its last symbol `p`. -/
def tracking (bits : BitVec 4) (data : Byte) (bytes : U16) (p : Pattern) : State :=
  { State.reset with
    configured := true, activeValid := true
    frame := { State.reset.frame with frameType := .pollFrame, frameStart := 3840, symbolRate := 105937 }
    protocol := { State.reset.protocol with maxFrameSize := 256 }
    stream := { State.reset.stream with bits := bits, data := data, bytes := bytes }
    symbol := { State.reset.symbol with pattern := p, value := if p = .patternH then 1 else 0, endAt := 13184 } }

/-- `s` after the commands, or as it is where one of them stops. -/
def doing (s : State) : List Instr → State
  | [] => s
  | i :: rest =>
    match exec i s with
    | .next t => doing t rest
    | .fault _ => s
    | .refused _ => s

/-- A poll frame with this payload. -/
def frameOf (payload : List Byte) (flags : Byte) : FrameRecord :=
  { FrameRecord.reset with tech := .nfcB, frameType := .pollFrame, flags := flags, payload := payload }

def bits (x : F32) : Nat := x.toBits.toNat

/-! ## WellFormed refuses an ill-formed operand -/

theorem test_wf_refuses_empty_payload : (Instr.cls (frameOf [] 0)).wf = false ∧ (Instr.crc (frameOf [] 0)).wf = false := by
  decide

theorem test_wf_refuses_long_payload :
    (Instr.cls (frameOf (List.replicate 257 0) 0)).wf = false ∧ (Instr.cls (frameOf (List.replicate 256 0) 0)).wf = true := by
  decide +kernel

/-! ## Decoding: words written out from 30_encoding R110, R115, R116 and table B1 -/

theorem test_decode_commands :
    decode (.cmd 0x00000000000000000) = .nop ∧ decode (.cmd 0x00000000000000001) = .rst ∧
    decode (.cmd 0x1F6666669F266666A) = .thr 0x3E4CCCCD 0x3ECCCCCD ∧ decode (.cmd 0x00000000004C4B403) = .cfg 10000000 ∧
    decode (.cmd 0x1FC000001FB333334) = .smp 0x3F666666 0x3F800000 ∧ decode (.cmd 0x000000E40000003DD) = .rsv5 ∧
    decode (.cmd 0b110) = .rsv6 ∧ decode (.cmd 0b111) = .rsv7 := by
  decide

theorem test_decode_seq :
    decode (.seq 0b00111) = .sofhold ∧ decode (.seq 0b01110) = .sofovr ∧ decode (.seq 0b01000) = .sofb ∧
    decode (.seq 0b01001) = .sofi ∧ decode (.seq 0b01010) = .sofe ∧ decode (.seq 0b01011) = .sofx ∧
    decode (.seq 0b10101) = .trk := by
  decide

/-- The keys of vectors B6-1 to B6-15, and the two unreachable rows. -/
theorem test_decode_sym :
    decode (.sym 0b01010) = .fstart ∧ decode (.sym 0b11010) = .fserrStart ∧ decode (.sym 0b10010) = .fdata ∧
    decode (.sym 0b00000) = .fdata ∧ decode (.sym 0b10100) = .fpush ∧ decode (.sym 0b10110) = .fpush ∧
    decode (.sym 0b00110) = .feof ∧ decode (.sym 0b00100) = .fserrStop ∧ decode (.sym 0b01011) = .ftruncStart ∧
    decode (.sym 0b11011) = .fserrStart ∧ decode (.sym 0b10001) = .ftruncData ∧ decode (.sym 0b10101) = .ftruncStop := by
  decide

theorem test_encode_commands :
    encode (.thr 0x3D4CCCCD 0x3F19999A) = some (.cmd 0x1F8CCCCD1EA66666A) ∧ encode (.cfg 2000000) = some (.cmd 0x00000000000F42403) ∧
    encode (.smp 0x3F6B851F 0x3F800000) = some (.cmd 0x1FC000001FB5C28FC) ∧ encode .lstn = none := by
  decide

theorem test_numbers_of_no_word :
    decodeNumber .cmd (2 ^ 67) = .error .tooWide ∧ decodeNumber .seq 32 = .error .tooWide ∧
    decodeNumber .call 0 = .error .noSelector ∧ decodeNumber .sym 6 = .ok .feof := by
  decide

theorem test_table_words :
    decodeTableWord 72 1 = some .rst ∧ decodeTableWord 8 1 = some .rst ∧ decodeTableWord 8 0x0A = some .sofe ∧
    decodeTableWord 8 0x14 = some .fpush ∧ decodeTableWord 8 0x18 = some .fserrStart ∧ decodeTableWord 72 (2 ^ 67) = none := by
  decide

/-- 30_encoding R127, R131, R132. -/
theorem test_codes :
    SearchStage.code .endStage = 2 ∧ Pattern.code .patternL = 2 ∧ Pattern.code .patternH = 3 ∧ Tech.code .nfcB = 2 ∧
    FrameType.code .pollFrame = 1 ∧ FrameType.code .listenFrame = 2 ∧ Phase.code .selectionFrame = 1 ∧
    Phase.code .applicationFrame = 2 ∧ Rate.code .k424 = 2 ∧ (frameOf [5, 0, 0] 0).length = 3 := by
  decide

/-! ## Steps: a presented word runs next, and a presented key is the key its SMP forms -/

theorem test_presented_command : after (step (State.reset.withFetchWord 72 0x00000000006774603)) (fun t =>
    t.configured && t.sampleRate == 13560000 && t.port.isEmpty) = true := by
  decide +kernel

/-- Each SEQ row's match value makes the next `SMP` form that key. -/
theorem test_presented_seq_keys : (seqRows.all fun row =>
    let s := presentSeqKey row.bits State.reset
    match takeCommand s with
    | some (.smp a b, s') => seqKey .k106 (edged a b s') == row.bits
    | _ => false) = true := by
  decide +kernel

/-- Each SYM row's match value makes the next `SMP` track a symbol and form a key of that row. -/
theorem test_presented_sym_keys : (symRows.all fun row =>
    let s := presentSymKey row.bits State.reset
    match takeCommand s with
    | some (.smp a b, s') => producesSymbol (edged a b s') && decodeSym (symKey (track (edged a b s'))) == row.op
    | _ => false) = true := by
  decide +kernel

/-- The presented `SMP` of an END-stage key runs `SOFE`: with the deadline not met it stays in END. -/
theorem test_presented_sofe : after (step (State.reset.withFetchWord 8 0x0A)) (fun t =>
    t.mods.k106.searchStage == .endStage && t.signalClock == 1 && t.port.isEmpty) = true := by
  decide +kernel

theorem test_empty_port_changes_nothing : after (step State.reset) (fun t => t == State.reset) = true := by decide +kernel

/-! ## Arithmetic -/

/-- B1: the literal patterns; B3-4: the depth `1 - K(0.9)` and `1 - 0.5`. -/
theorem test_literals :
    bits (F32.ofRatio 1 10) = 0x3DCCCCCD ∧ bits (F32.ofRatio 1 2) = 0x3F000000 ∧ bits (F32.ofRatio 1 1000) = 0x3A83126F ∧
    bits (F32.ofRatio 1 100) = 0x3C23D70A ∧ bits (fsub (F32.ofNat 1) (F32.ofRatio 9 10)) = 0x3DCCCCD0 ∧
    bits (fsub (F32.ofNat 1) (F32.ofRatio 1 2)) = 0x3F000000 := by
  decide +kernel

/-- 70_reset_and_hazards R346: comparisons are strict, and false with a NaN. -/
theorem test_comparisons :
    F32.gt literalHalf literalHalf = false ∧ F32.gt (F32.ofBits 0x3DCCCCD0) literalTenth = true ∧
    F32.gt (F32.ofBits 0x7FC00000) (F32.ofBits 0xFF800000) = false ∧ F32.gt (F32.ofBits 0x80000000) F32.zero = false := by
  decide +kernel

/-- B2: `stu` of 10 MHz, 3 178 125 Hz and 50 MHz, and `7.5` rounding to 8. -/
theorem test_sample_time_units :
    bits (timeUnit 10000000) = 0x3F3CCA62 ∧ bits (timeUnit 3178125) = 0x3E700000 ∧ bits (timeUnit 50000000) = 0x406BFCFB ∧
    samplesIn (timeUnit 3178125) 32 = 8 ∧ samplesIn (timeUnit 3178124) 32 = 7 ∧ samplesIn (timeUnit 50000000) 8 = 29 := by
  decide +kernel

/-- Sums and quotients with infinities and zeros (IEEE 754). -/
theorem test_special_values :
    fadd (.inf false) (F32.ofNat 1) = .inf false ∧ (fsub (.inf false) (.inf false)).isNaN = true ∧
    fdiv (F32.ofNat 1) F32.zero = .inf false ∧ (fdiv F32.zero F32.zero).isNaN = true ∧
    bits (fsub F32.zero F32.zero) = 0 ∧ bits (fadd (F32.ofBits 0x80000000) (F32.ofBits 0x80000000)) = 0x80000000 := by
  decide +kernel

/-! ## Commands -/

theorem test_cfg_10MHz : after (exec (.cfg 10000000) State.reset) (fun t =>
    t.params.k106.period1 == 94 && t.params.k212.period1 == 47 && t.params.k424.period1 == 24 && t.params.k212.period8 == 6 &&
    t.params.k424.symbolDelayDetect == 141 && t.params.k106.symbolsPerSecond == 105937 &&
    t.protocol.frameWaitingTime == 48330 && t.protocol.requestGuardTime == 5162 && t.frame.frameGuardTime == 661) = true := by
  decide +kernel

theorem test_cfg_offsets : after (exec (.cfg 13560000) State.reset) (fun t =>
    t.params.k106.offsetSignalIndex == 4096 && t.params.k106.offsetPeriod1Index == 3968 &&
    t.params.k212.offsetFilterIndex == 3952 && t.params.k424.offsetDetectIndex == 3900) = true := by
  decide +kernel

theorem test_thr : after (exec (.thr 0x3D4CCCCD 0x3F19999A) State.reset) (fun t =>
    bits t.minimumModulationThreshold == 0x3D4CCCCD && bits t.maximumModulationThreshold == 0x3F19999A) = true := by
  decide +kernel

/-- `RST` leaves nothing of a configuration, and keeps the pin (10_state R58). -/
theorem test_rst : after (exec .rst { tracking 9 5 7 .patternH with configError := true, powerLevelThreshold := literalHalf })
    (fun t => t == { State.reset with powerLevelThreshold := literalHalf }) = true := by
  decide +kernel

theorem test_nop : after (exec .nop (tracking 1 2 3 .patternL)) (fun t => t == tracking 1 2 3 .patternL) = true := by decide +kernel
theorem test_rsv5 : after (exec .rsv5 (tracking 1 2 3 .patternL)) (fun t => t == tracking 1 2 3 .patternL) = true := by decide +kernel
theorem test_rsv6 : after (exec .rsv6 (tracking 1 2 3 .patternL)) (fun t => t == tracking 1 2 3 .patternL) = true := by decide +kernel
theorem test_rsv7 : after (exec .rsv7 (tracking 1 2 3 .patternL)) (fun t => t == tracking 1 2 3 .patternL) = true := by decide +kernel

/-! ## The sample, the edge -/

/-- 20_memory R81, R83: the clock wraps, the sample goes to the cell of the new clock. -/
theorem test_ingest : after (exec (.ingest 0x3F400000 0x3F800000) { State.reset with signalClock := 4097 }) (fun t =>
    t.signalClock == 4098 && t.signalData == [(2, 0x3F400000)] && bits t.powerAverage == 0x3F800000) = true := by
  decide +kernel

theorem test_ingest_wraps : after (exec (.ingest 5 0) { State.reset with signalClock := 0xFFFFFFFFFFFFFFFF }) (fun t =>
    t.signalClock == 0 && t.signalData == [(0, 5)]) = true := by
  decide +kernel

/-- B3-1: after two samples of the warm-up at 13.56 MHz. -/
theorem test_edge_warm_up : after (exec (.edge .k106) (doing State.reset [.cfg 13560000, .smp 0x3F800000 0x3F800000,
      .ingest 0x3F800000 0x3F800000])) (fun t =>
    t.mods.k106.filterIntegrate == F32.ofNat 2 && t.mods.k106.detectIntegrate == F32.ofNat 2 &&
    bits (signedEdge .k106 t) == 0xBD800000 && depth .k106 t == F32.zero) = true := by
  decide +kernel

/-- B3-3: one low sample of 0.75 after a full window of 1.0 at 10 MHz, by `EDGE` on the integrators 24 and 12. -/
theorem test_edge_falling : after (exec (.edge .k106) { doing State.reset [.cfg 10000000] with
      signalClock := 2833, signalData := [(2809, 0x3F800000), (2821, 0x3F800000), (2833, 0x3F400000)], powerAverage := F32.ofNat 1
      mods := { State.reset.mods with k106 := { State.reset.mods.k106 with
        filterIntegrate := F32.ofNat 24, detectIntegrate := F32.ofNat 12 } } }) (fun t =>
    bits t.mods.k106.filterIntegrate == 0x41BE0000 && bits t.mods.k106.detectIntegrate == 0x413C0000 &&
    bits (signedEdge .k106 t) == 0x3C2AAA80 && bits (depth .k106 t) == 0x3E800000) = true := by
  decide +kernel

/-! ## The search (C1: at 3.39 MHz, `period1..8 = 32, 16, 8, 4`) -/

/-- Rate 0 after `CFG 3390000`, with `E` and `D` of a sample given through the integrators and the power. -/
def at339 (clock : Time) (m : ModulationStatus) (edge32 : Nat) (low : Bool) : State :=
  let s := doing State.reset [.cfg 3390000]
  { s with
    signalClock := clock, powerAverage := F32.ofNat 1
    signalData := [(clock.toNat % 4096, if low then 0x3F400000 else 0x3F800000)]
    mods := { s.mods with k106 := { m with
      filterIntegrate := fdiv (F32.ofNat edge32) (F32.ofNat 4), detectIntegrate := F32.zero } } }

/-- Clock 964: the falling edge's peak, `E = 0.125`, and its deadline. -/
theorem test_sofb_peak : after (exec .sofb (at339 964 State.reset.mods.k106 4 true)) (fun t =>
    bits t.mods.k106.detectorPeek == 0x3E000000 && t.mods.k106.searchPeakTime == 964 && t.mods.k106.searchEndTime == 972 &&
    t.mods.k106.searchStage == .beginStage && t.returned == .detection false) = true := by
  decide +kernel

/-- Clock 972: to IDLE, window `[1268, 1332]`. -/
theorem test_sofb_deadline : after (exec .sofb (at339 972
      { State.reset.mods.k106 with searchPeakTime := 964, searchEndTime := 972, detectorPeek := F32.ofBits 0x3E000000 } 0 true)) (fun t =>
    t.mods.k106.searchStage == .idleStage && t.mods.k106.symbolStartTime == 960 && t.mods.k106.searchStartTime == 1268 &&
    t.mods.k106.searchEndTime == 1332 && t.mods.k106.searchPeakTime == 0 && t.mods.k106.detectorPeek == F32.zero) = true := by
  decide +kernel

/-- Clock 1292: to END, window `[1332, 1396]`. -/
theorem test_sofi_deadline : after (exec .sofi (at339 1292 { State.reset.mods.k106 with
      searchStage := .idleStage, searchStartTime := 1268, searchPeakTime := 1284, searchEndTime := 1292 } 0 false)) (fun t =>
    t.mods.k106.searchStage == .endStage && t.mods.k106.searchStartTime == 1332 && t.mods.k106.searchEndTime == 1396) = true := by
  decide +kernel

/-- R191: an edge before the window is illegal and aborts. -/
theorem test_sofi_illegal : after (exec .sofi (at339 1200 { State.reset.mods.k106 with
      searchStage := .idleStage, searchStartTime := 1268, searchEndTime := 1332, symbolStartTime := 960 } 4 false)) (fun t =>
    t.mods.k106.searchStage == .beginStage && t.mods.k106.symbolStartTime == 0 && t.mods.k106.searchEndTime == 0) = true := by
  decide +kernel

/-- Clock 1384: the confirmation. -/
theorem test_sofe_confirms : after (exec .sofe (at339 1384 { State.reset.mods.k106 with
      searchStage := .endStage, searchStartTime := 1332, searchPeakTime := 1380, searchEndTime := 1384, symbolStartTime := 960 }
      0 true)) (fun t =>
    t.sofConfirmed && t.activeValid && t.mods.k106.symbolEndTime == 1376 && t.frame.frameStart == 960 &&
    t.frame.frameType == .pollFrame && t.frame.symbolRate == 105937 && t.returned == .detection true) = true := by
  decide +kernel

/-- B4-10: the END deadline without a peak. -/
theorem test_sofe_times_out : after (exec .sofe (at339 1396 { State.reset.mods.k106 with
      searchStage := .endStage, searchStartTime := 1332, searchEndTime := 1396, symbolStartTime := 960 } 0 false)) (fun t =>
    t.mods.k106.searchStage == .beginStage && !t.activeValid && !t.sofConfirmed && t.mods.k106.symbolStartTime == 0) = true := by
  decide +kernel

theorem test_sofconf : after (exec .sofconf (at339 1384 { State.reset.mods.k106 with searchPeakTime := 1380, symbolStartTime := 960 }
      0 true)) (fun t => t.mods.k106.symbolEndTime == 1376 && t.mods.k106.symbolSyncTime == 0 && t.frame.frameStart == 960) = true := by
  decide +kernel

/-- B4-15, B4-12, R186. -/
theorem test_sofx : after (exec .sofx (searching { State.reset.mods.k106 with searchStage := .reservedStage, searchEndTime := 5 }))
    (fun t => t.mods.k106.searchStage == .beginStage && t.mods.k106.searchEndTime == 0) = true := by
  decide +kernel
theorem test_sofovr : after (exec .sofovr (searching { State.reset.mods.k106 with searchPeakTime := 9, symbolSyncTime := 7 }))
    (fun t => t.mods.k106.searchPeakTime == 0 && t.mods.k106.symbolSyncTime == 7) = true := by
  decide +kernel
theorem test_sofabt : after (exec .sofabt (searching { State.reset.mods.k106 with searchStage := .endStage, symbolEndTime := 7 }))
    (fun t => t == searching State.reset.mods.k106) = true := by
  decide +kernel
theorem test_sofhold : after (exec .sofhold (searching { State.reset.mods.k106 with searchStage := .idleStage }))
    (fun t => t.mods.k106.searchStage == .idleStage && t.returned == .detection false) = true := by
  decide +kernel

/-! ## The tracker (C1, clocks 1385 and 1392) -/

theorem test_trk_predicts : after (exec .trk (at339 1385 { State.reset.mods.k106 with symbolEndTime := 1376 } 0 true)) (fun t =>
    t.mods.k106.symbolStartTime == 1376 && t.mods.k106.symbolEndTime == 1408 && t.mods.k106.symbolSyncTime == 1392 &&
    t.returned == .symbol none && t.symbol.pattern == .invalid) = true := by
  decide +kernel

theorem test_trk_decides : after (exec .trk (at339 1392 { State.reset.mods.k106 with
      symbolStartTime := 1376, symbolEndTime := 1408, symbolSyncTime := 1392, detectorPeek := F32.ofNat 1 } 0 true)) (fun t =>
    t.symbol == { pattern := .patternL, value := 0, startAt := 1376, endAt := 1408, length := 32 } &&
    t.mods.k106.searchStartTime == 1400 && t.mods.k106.searchEndTime == 1416 && t.mods.k106.symbolSyncTime == 0 &&
    t.mods.k106.detectorPeek == F32.zero) = true := by
  decide +kernel

/-! ## The framer (B6) -/

def framer (t : State) : BitVec 4 × Byte × U16 := (t.stream.bits, t.stream.data, t.stream.bytes)

/-- B6-1. -/
theorem test_fstart : after (exec .fstart (tracking 0 0 0 .patternL)) (fun t => framer t == (1, 0, 0)) = true := by decide +kernel

/-- B6-5 and B6-7. -/
theorem test_fdata :
    after (exec .fdata (tracking 3 0x01 0 .patternH)) (fun t => framer t == (4, 0x05, 0)) = true ∧
    after (exec .fdata (tracking 8 0x7F 0 .patternH)) (fun t => framer t == (9, 0xFF, 0)) = true := by
  decide +kernel

/-- B6-8 and B6-15. -/
theorem test_fpush :
    after (exec .fpush (tracking 9 0x05 0 .patternH)) (fun t => framer t == (0, 0, 1) && t.stream.buffer.read 0 == 0x05) = true ∧
    after (exec .fpush (tracking 9 0xA5 255 .patternH)) (fun t => framer t == (0, 0, 256) && t.stream.buffer == [(255, 0xA5)]) = true := by
  decide +kernel

/-- B6-10: no `Truncated`; B6-11: no frame. -/
theorem test_feof :
    after (exec .feof (tracking 9 0 5 .patternL)) (fun t =>
      t.frameValid && t.frameOut.payload.length == 5 && t.frameOut.flags &&& 0x08 == 0 && t.frameOut.sampleEnd == 13184 &&
      t.frame.lastFrameEnd == 13184 && !t.activeValid && framer t == (0, 0, 0)) = true ∧
    after (exec .feof (tracking 9 0 0 .patternL)) (fun t => !t.frameValid && !t.activeValid) = true := by
  decide +kernel

/-- B6-3 and B6-12. -/
theorem test_fserr :
    after (exec .fserrStart (tracking 0 0 3 .patternH)) (fun t => t.frameOut.payload.length == 3 && t.frameOut.flags &&& 0x08 == 8) = true ∧
    after (exec .fserrStop (tracking 9 5 1 .patternL)) (fun t => t.frameOut.payload.length == 1 && t.frameOut.flags &&& 0x08 == 8) = true := by
  decide +kernel

/-- B6-13, and the two rows R239 calls unreachable. -/
theorem test_ftrunc :
    after (exec .ftruncStart (tracking 0 0 256 .patternL)) (fun t => t.frameOut.payload.length == 256 && t.frameOut.flags &&& 0x08 == 8) = true ∧
    after (exec .ftruncData (tracking 4 0 256 .patternL)) (fun t => t.frameOut.flags &&& 0x08 == 8) = true ∧
    after (exec .ftruncStop (tracking 9 5 256 .patternH)) (fun t => t.frameOut.flags &&& 0x08 == 8) = true := by
  decide +kernel

theorem test_fterm_fin :
    after (exec (.fin true) (tracking 9 5 1 .patternL)) (fun t => t.frameValid && t.activeValid && t.frame.frameType == .listenFrame) = true ∧
    after (exec (.fterm true) (tracking 9 5 1 .patternL)) (fun t => t.frameValid && !t.activeValid && t.frame.frameType == .noFrame) = true := by
  decide +kernel

/-- B9-1 at 10 MHz and C1: the binary64 patterns of 0.0002832, 0.0009719, 0.0002831858407079646 and 0.0009722713864306785. -/
theorem test_wall_times :
    wallTime 2832 10000000 = 0x3F328F4EBCFC7531 ∧ wallTime 9719 10000000 = 0x3F4FD8E35B848B15 ∧
    wallTime 960 3390000 = 0x3F328F11ECAE0FD7 ∧ wallTime 3296 3390000 = 0x3F4FDC00E75E0198 := by
  decide +kernel

/-! ## The classifier and the CRC (B7, B8) -/

/-- B7-1 and B7-2. -/
theorem test_cls_reqb :
    let s := { doing State.reset [.cfg 13560000] with frame := { (doing State.reset [.cfg 13560000]).frame with frameEnd := 13184 } }
    after (exec (.cls (frameOf [0x05, 0, 0, 0x71, 0xFF] 0)) s) (fun t =>
      t.frameOut.phase == .selectionFrame && t.frameOut.flags == 0 && t.frame.lastCommand == 5 && t.frame.guardEnd == 14080 &&
      t.frame.waitingEnd == 15488 && t.frame.frameWaitingTime == 2304 && t.frame.lastFrameEnd == 13184) = true ∧
    after (exec (.cls (frameOf [0x05, 0, 0, 0x71, 0xFE] 0)) s) (fun t => t.frameOut.flags == 0x20) = true := by
  decide +kernel

/-- B7-3 and B7-6. -/
theorem test_cls_application :
    let s := { doing State.reset [.cfg 13560000] with frame := { (doing State.reset [.cfg 13560000]).frame with frameEnd := 13184 } }
    after (exec (.cls (frameOf [0x1D, 0x11, 0x22, 0x7F, 0x32] 0)) s) (fun t =>
      t.frameOut.phase == .applicationFrame && t.frameOut.flags == 0 && t.frame.lastCommand == 0 &&
      t.frame.guardEnd == 14080 && t.frame.waitingEnd == 78720) = true ∧
    after (exec (.cls (frameOf [0xFF] 8)) s) (fun t => t.frameOut.flags == 0x28 && t.frame.frameType == .listenFrame) = true := by
  decide +kernel

theorem test_crc16 :
    crc16 [] = 0x0000 ∧ crc16 [0x00] = 0xF078 ∧ crc16 [0xFF] = 0xFF00 ∧ crc16 [0x05, 0, 0] = 0xFF71 ∧
    crc16 [0x31, 0x32, 0x33, 0x34, 0x35, 0x36, 0x37, 0x38, 0x39] = 0x906E := by
  decide +kernel

theorem test_crc :
    after (exec (.crc (frameOf [0x05, 0, 0, 0x71, 0xFF] 0)) State.reset) (fun t => t.returned == .crc true) = true ∧
    after (exec (.crc (frameOf [0x05, 0, 0, 0xFF, 0x71] 0)) State.reset) (fun t => t.returned == .crc false) = true := by
  decide +kernel

theorem test_rstm : after (exec .rstm (tracking 9 5 7 .patternH)) (fun t =>
    !t.activeValid && t.frame.frameType == .noFrame && t.symbol.pattern == .invalid && framer t == (0, 0, 0) &&
    t.frame.symbolRate == 105937 && t.protocol.maxFrameSize == 256) = true := by
  decide +kernel

theorem test_lstn : after (exec .lstn (tracking 9 5 7 .patternH)) (fun t => t.returned == .listenNoFrame) = true := by decide +kernel

/-! ## Witnesses: for every statement with hypotheses a state and operands that meet them; of several clauses, one for each -/

theorem witness_StepRunsTheCommandOnThePort : State.reset.port = [] ∧
    ({ State.reset with port := [⟨1, literalHalf⟩] } : State).port = ⟨1, literalHalf⟩ :: [] ∧ decode (.cmd 1) = .rst := by
  decide

theorem witness_PresentedCommandRunsNext : (8 < 72 ∨ 2 ^ 66 < 8 ∨ 32 ≤ 2 ^ 66) ∧ 2 ^ 66 < 2 ^ 67 := by decide

theorem witness_IngestStoresTheSampleOfTheNewClock : Memory.wf (w := 32) [(2, 0x3F800000), (4095, 1)] := by decide

theorem witness_UnconfiguredSmpOnlyIngests : State.reset.configured = false ∧ (raiseConfigError State.reset).configError = true := by
  decide

theorem witness_SearchingSmpRunsTheKeyedOperation :
    let s := searching State.reset.mods.k106
    s.configured = true ∧ s.configError = false ∧ s.activeValid = false ∧ s.frame.frameType ≠ .listenFrame := by
  decide

/-- Both clauses: a symbol is due at the next clock, or it is not. -/
theorem witness_TrackingSmpTracksAndFrames :
    let s := presentSymKey 0b00110 State.reset
    let s' := presentSeqKey 0b10000 State.reset
    let m := { s' with protocol := { s'.protocol with maxFrameSize := 256 } }
    (s.configured = true ∧ s.configError = false ∧ s.activeValid = true ∧ s.stream.bytes.toNat ≤ 256 ∧
      s.protocol.maxFrameSize = 256 ∧ (track (edged 0x3F400000 0x3F800000 s)).returned ≠ .symbol none) ∧
    (m.configured = true ∧ m.configError = false ∧ m.activeValid = true ∧ m.stream.bytes.toNat ≤ 256 ∧
      m.protocol.maxFrameSize = 256 ∧ (track (edged 0x3F800000 0x3F800000 m)).returned = .symbol none) := by
  decide +kernel

/-- A search in each stage: C1's clocks 971 to 972 (BEGIN), 1291 to 1292 (IDLE), 1383 to 1384 (END). -/
theorem witness_SearchStagesFollowTheGraph :
    after (exec (.smp 0x3F400000 0x3F800000) (at339 971 { State.reset.mods.k106 with
        searchPeakTime := 964, searchEndTime := 972, detectorPeek := F32.ofNat 1 } 0 true))
      (fun t => t.mods.k106.searchStage == .idleStage) = true ∧
    after (exec (.smp 0x3F800000 0x3F800000) (at339 1291 { State.reset.mods.k106 with
        searchStage := .idleStage, searchStartTime := 1268, searchPeakTime := 1284, searchEndTime := 1292
        detectorPeek := F32.ofBits 0xBF800000 } 0 false))
      (fun t => t.mods.k106.searchStage == .endStage) = true ∧
    after (exec (.smp 0x3F800000 0x3F800000) (at339 1383 { State.reset.mods.k106 with
        searchStage := .endStage, searchStartTime := 1332, searchPeakTime := 1380, searchEndTime := 1384 } 0 false))
      (fun t => t.activeValid) = true ∧
    after (exec (.smp 0x3F800000 0x3F800000) (searching { State.reset.mods.k106 with searchStage := .reservedStage }))
      (fun t => !t.activeValid) = true := by
  decide +kernel

theorem witness_DecodeAndEncodeAgree : (Instr.thr 1 2).wf = true ∧ encode (.thr 1 2) = some (.cmd (cmdWord 0b010 1 2)) := by
  decide

theorem witness_ListenHookDoesNothing :
    let s := { searching State.reset.mods.k106 with frame := { State.reset.frame with frameType := .listenFrame } }
    s.configured = true ∧ s.configError = false ∧ s.activeValid = false ∧ s.frame.frameType = .listenFrame := by
  decide

/-- An `SMP` that confirms a SOF, and one that publishes a frame. -/
theorem witness_StrobesMarkTheirOwnSmp :
    after (exec (.smp 0x3F800000 0x3F800000) (at339 1383 { State.reset.mods.k106 with
        searchStage := .endStage, searchStartTime := 1332, searchPeakTime := 1380, searchEndTime := 1384 } 0 false))
      (fun t => t.sofConfirmed && t.activeValid) = true ∧
    after (exec (.smp 0x3F400000 0x3F800000) { presentSymKey 0b00110 State.reset with
        stream := { State.reset.stream with bits := 9, bytes := 1 } }) (fun t => t.frameValid && !t.activeValid) = true := by
  decide +kernel

theorem witness_NopAndReservedCodesChangeNothing : (0x000000E40000003DD : BitVec 67).extractLsb' 0 3 = 0b101 ∧
    (0x7FFFFFFFFFFFFFFF8 : BitVec 67).extractLsb' 0 3 = 0b000 ∧ (6 : BitVec 67).extractLsb' 0 3 = 0b110 ∧
    (7 : BitVec 67).extractLsb' 0 3 = 0b111 := by decide

theorem witness_ThrStoresBothThresholds : State.reset.configError = false ∧ (raiseConfigError State.reset).configError = true := by
  decide

/-- Each condition of the test: a period below 8 (just below the lowest rate), and a window too short (the highest rate). -/
theorem witness_CfgRejectsAnImpossibleRate : State.reset.configError = false ∧
    Claims.RateRejected (2 ^ State.reset.windowBits.val) 3178124 ∧
    Claims.RateRejected (2 ^ State.reset.windowBits.val) 4294967295 := by
  unfold Claims.RateRejected
  decide +kernel

theorem witness_CfgLoadsTheTablesAndClearsTheRest : State.reset.configError = false ∧
    ¬ Claims.RateRejected (2 ^ State.reset.windowBits.val) 3178125 := by
  unfold Claims.RateRejected
  decide +kernel

theorem witness_ConfigErrorIsFatalUntilRst : (raiseConfigError State.reset).configError = true := by decide

theorem witness_ConfiguredDivisorsAreNotZero : State.reset.configError = false ∧
    after (exec (.cfg 3178125) State.reset) (fun t => !t.configError) = true := by
  decide +kernel

theorem witness_WindowIndicesReachBackByTheDelay : State.reset.configError = false ∧
    after (exec (.cfg 13560000) State.reset) (fun t => !t.configError) = true := by
  decide +kernel

theorem witness_ToSamplesIsMonotone : 896 ≤ 65536 ∧ 65536 ≤ 65536 := by decide

/-- Both formats, a divisor that is not 0, a rate that is not 0; and the two ends of the range: a sum that overflows to an infinity, a
product below the least number, which is a tie and goes to zero. -/
theorem witness_RoundingIsToNearestEven : 1 ≤ 23 ∧ 1 ≤ 52 ∧ 0 < 13560000 ∧ (⟨1, by omega⟩ : Fin 0x7F800000).val ≠ 0 ∧
    (13560000 : U32) ≠ 0 ∧
    fadd (.finite false ⟨0x7F7FFFFF, by omega⟩) (.finite false ⟨0x7F7FFFFF, by omega⟩) = .inf false ∧
    fmul (.finite true ⟨1, by omega⟩) (.finite false ⟨0x3F000000, by omega⟩) = .finite true ⟨0, by omega⟩ := by
  decide +kernel

/-- With `powerAverage = 0`: a positive, a negative and a zero sample. -/
theorem witness_DepthAtZeroPower :
    State.reset.powerAverage = F32.ofBits 0 ∧ sampleNow .k106 State.reset = F32.ofBits 0 ∧
    sampleNow .k106 { State.reset with signalData := [(0, 1)] } = .finite false ⟨1, by omega⟩ ∧
    sampleNow .k106 { State.reset with signalData := [(0, 0x80000001)] } = .finite true ⟨1, by omega⟩ := by
  decide

/-- Each way in: an infinite sample, a NaN sample, poisoned integrators (one a NaN, one an infinity), a NaN in either one alone; and an
operation that keeps them. -/
theorem witness_NanPoisonsTheIntegrators :
    (sampleNow .k106 { State.reset with signalData := [(0, 0xFF800000)] }).isFinite = false ∧
    (sampleNow .k106 { State.reset with signalData := [(0, 0x7F800001)] }).isNaN = true ∧
    Claims.Poisoned { State.reset.mods.k106 with filterIntegrate := F32.ofBits 0x7FC00000, detectIntegrate := .inf true } ∧
    (F32.ofBits 0x7FC00000).isNaN = true ∧
    (∃ t, exec .trk State.reset = .next t ∧ Instr.trk ≠ .rst ∧ ∀ rate, Instr.trk ≠ .cfg rate) :=
  ⟨by decide, by decide, ⟨true, .inl (by decide), .inr rfl⟩, by decide, ⟨_, rfl, by simp, by simp⟩⟩

/-- The clauses of `SOFB`: before the deadline, at it with a peak, at it without one. -/
theorem witness_SofbFollowsTheFirstFallingEdge :
    let s0 := searching { State.reset.mods.k106 with searchEndTime := 5 }
    let s1 := searching { State.reset.mods.k106 with searchPeakTime := 9 }
    let s2 := searching State.reset.mods.k106
    s0.signalClock ≠ (beginPeak s0).searchEndTime ∧
    (s1.signalClock = (beginPeak s1).searchEndTime ∧ (beginPeak s1).searchPeakTime ≠ 0) ∧
    (s2.signalClock = (beginPeak s2).searchEndTime ∧ (beginPeak s2).searchPeakTime = 0) := by
  decide +kernel

/-- The clauses of `SOFI`: an illegal edge, before the deadline, at it with a peak, at it without one. -/
theorem witness_SofiFindsTheRisingEdgeOrAborts :
    let s0 := at339 1200 { State.reset.mods.k106 with searchStage := .idleStage, searchStartTime := 1268, searchEndTime := 1332 } 4 false
    let s1 := at339 1300 { State.reset.mods.k106 with searchStage := .idleStage, searchStartTime := 1268, searchEndTime := 1332 } 0 false
    let s2 := at339 1292 { State.reset.mods.k106 with searchStartTime := 1268, searchPeakTime := 1284, searchEndTime := 1292 } 0 false
    let s3 := at339 1332 { State.reset.mods.k106 with searchStartTime := 1268, searchEndTime := 1332 } 0 false
    idleIllegal s0 = true ∧
    (idleIllegal s1 = false ∧ s1.signalClock ≠ (idlePeak s1).searchEndTime) ∧
    (idleIllegal s2 = false ∧ s2.signalClock = (idlePeak s2).searchEndTime ∧ (idlePeak s2).searchPeakTime ≠ 0) ∧
    (idleIllegal s3 = false ∧ s3.signalClock = (idlePeak s3).searchEndTime ∧ (idlePeak s3).searchPeakTime = 0) := by
  decide +kernel

theorem witness_SofeConfirmsOrFallsBack :
    let s0 := at339 1377 { State.reset.mods.k106 with searchStartTime := 1332, searchEndTime := 1396 } 0 false
    let s1 := at339 1384 { State.reset.mods.k106 with searchStartTime := 1332, searchPeakTime := 1380, searchEndTime := 1384 } 0 false
    let s2 := at339 1396 { State.reset.mods.k106 with searchStartTime := 1332, searchEndTime := 1396 } 0 false
    s0.signalClock ≠ (endPeak s0).searchEndTime ∧
    (s1.signalClock = (endPeak s1).searchEndTime ∧ (endPeak s1).searchPeakTime ≠ 0) ∧
    (s2.signalClock = (endPeak s2).searchEndTime ∧ (endPeak s2).searchPeakTime = 0) := by
  decide +kernel

/-- A `TRK` before the decision and one at it. -/
theorem witness_TrkResyncsPredictsAndDecides :
    let s0 := at339 1385 { State.reset.mods.k106 with symbolEndTime := 1376 } 0 true
    let s1 := at339 1392 { State.reset.mods.k106 with symbolSyncTime := 1392, detectorPeek := F32.ofNat 1 } 0 true
    s0.signalClock ≠ (beforeDecision s0.activeRate s0).symbolSyncTime ∧
    s1.signalClock = (beforeDecision s1.activeRate s1).symbolSyncTime := by
  decide +kernel

/-- A `TRK` that predicts, and one that decides a symbol already one period long. -/
theorem witness_TrackedSymbolsAreOnePeriodLong :
    (modOf State.reset.activeRate State.reset).symbolSyncTime = 0 ∧
    (let s := at339 1392 { State.reset.mods.k106 with
        symbolStartTime := 1376, symbolEndTime := 1408, symbolSyncTime := 1392, detectorPeek := F32.ofNat 1 } 0 true
     (modOf s.activeRate s).symbolEndTime - (modOf s.activeRate s).symbolStartTime = (paramsOf s.activeRate s).period1.setWidth 64 ∧
     (track s).returned ≠ .symbol none) := by
  decide +kernel

/-- Every clause of the table, at the boundary positions 0, 1, 8 and 9. -/
theorem witness_FramerDecisionTable :
    (tracking 9 0 5 .patternL).stream.bits = 9 ∧ (tracking 9 0 5 .patternL).stream.data = 0 ∧
    (tracking 9 0 5 .patternL).symbol.pattern = .patternL ∧
    (tracking 0 0 0 .patternH).stream.bits = 0 ∧ (tracking 0 0 0 .patternH).symbol.pattern = .patternH ∧
    (tracking 9 5 1 .patternL).stream.data ≠ 0 ∧ (tracking 0 0 256 .patternL).symbol.pattern = .patternL ∧
    (tracking 1 0 0 .patternH).stream.bits ≠ 0 ∧ (tracking 8 0 0 .patternL).stream.bits ≠ 9 ∧
    (tracking 9 0 2 .patternH).symbol.pattern = .patternH := by
  decide

theorem witness_TerminatorConditionsSelectTheirRows : (tracking 9 0 5 .patternL).symbol.pattern = .patternL ∧
    frameEndCond (tracking 9 0 5 .patternL) = true ∧ streamErrorCond (tracking 0 0 256 .patternH) = true ∧
    truncateErrorCond (tracking 0 0 256 .patternL) = true := by
  decide

theorem witness_FstartAndFdataAdvanceThePosition : 1 ≤ (tracking 1 0 0 .patternH).stream.bits.toNat ∧
    (tracking 8 0 0 .patternH).stream.bits.toNat ≤ 8 := by decide

theorem witness_FpushStoresTheByte : (tracking 9 0xA5 255 .patternH).stream.buffer.wf ∧
    (tracking 9 0xA5 255 .patternH).stream.bytes.toNat < 256 := by decide

theorem witness_TerminatorsRunFterm : (tracking 0 0 256 .patternL).stream.bytes.toNat ≤ 256 := by decide

theorem witness_FtermPublishesOnlyNonEmptyFrames : (tracking 9 0 0 .patternL).stream.bytes = 0 ∧
    (tracking 9 0 256 .patternL).stream.bytes ≠ 0 ∧ (tracking 9 0 256 .patternL).stream.bytes.toNat ≤ 256 := by decide

theorem witness_FinBuildsClassifiesAndPublishes : (tracking 9 0 256 .patternL).stream.bytes.toNat ≤ 256 := by decide

theorem witness_ClsRecognisesReqb : let f := frameOf [0x05, 0, 0, 0x71, 0xFF] 0
    f.frameType = .pollFrame ∧ f.payload.length = 5 ∧ f.payload.head? = some 0x05 := by decide

/-- First byte 05 and length 4, and length 5 with another first byte (B7-4, B7-5). -/
theorem witness_ClsTreatsOtherFramesAsApplication :
    (let f := frameOf [0x05, 0, 0, 0x71] 0
     f.frameType = .pollFrame ∧ ¬ (f.payload.length = 5 ∧ f.payload.head? = some 0x05)) ∧
    (let f := frameOf [0x52, 0, 0, 0x97, 0xF0] 0
     f.frameType = .pollFrame ∧ ¬ (f.payload.length = 5 ∧ f.payload.head? = some 0x05)) := by decide

theorem witness_ClsOpensAWindowOnlyAfterPollFrames :
    ({ frameOf [5] 0 with frameType := .listenFrame } : FrameRecord).frameType ≠ .pollFrame ∧
    ({ frameOf [5] 0 with frameType := .noFrame } : FrameRecord).frameType ≠ .pollFrame := by decide

theorem witness_CrcComparesTheTrailer : (frameOf [0x71, 0xFF] 0).payload.length ≤ 2 ∧
    (frameOf [0x05, 0, 0, 0x71, 0xFF] 0).payload = [0x05, 0, 0] ++ [0x71, 0xFF] := by decide

theorem witness_CoreNeverWritesTheSignalSource : ∃ t, exec .trk State.reset = .next t ∧ Instr.trk ≠ .rst ∧
    ∀ a b, Instr.trk ≠ .smp a b ∧ Instr.trk ≠ .ingest a b :=
  ⟨_, rfl, by simp, by simp⟩

theorem witness_ConfigurationHasItsOwnWriters : ∃ t, exec (.smp 1 2) State.reset = .next t ∧
    (∀ min max, Instr.smp 1 2 ≠ .thr min max) ∧ ∀ rate, Instr.smp 1 2 ≠ .cfg rate :=
  ⟨_, rfl, by simp, by simp⟩

/-- The clauses: an operation that may not write the selectors, tracking begins, tracking ends. -/
theorem witness_SelectorsHaveTwoWriters :
    (∃ t, exec .fstart State.reset = .next t ∧ ¬ Claims.SetsSelectors .fstart ∧ ¬ Claims.ClearsSelectors .fstart) ∧
    (∃ t, exec .sofconf State.reset = .next t ∧ State.reset.activeValid = false ∧ t.activeValid = true) ∧
    (∃ t, exec .rstm (tracking 0 0 0 .patternL) = .next t ∧ (tracking 0 0 0 .patternL).activeValid = true ∧ t.activeValid = false) :=
  ⟨⟨_, rfl, by simp [Claims.SetsSelectors], by simp [Claims.ClearsSelectors]⟩, ⟨_, rfl, rfl, rfl⟩, ⟨_, rfl, rfl, rfl⟩⟩

theorem witness_OnlyEdgeAndConfigurationWriteIntegrators : ∃ t, exec .trk State.reset = .next t ∧
    (∀ r, Instr.trk ≠ .edge r) ∧ ∀ a b, Instr.trk ≠ .smp a b :=
  ⟨_, rfl, by simp, by simp⟩

theorem witness_SearchNeverProducesOutput : ∃ t, exec .sofi State.reset = .next t := ⟨_, rfl⟩

theorem witness_InputsAreNeverWritten : ∃ t, exec .rst State.reset = .next t := ⟨_, rfl⟩

/-- A state that tracks and has a command to take. -/
theorem witness_EveryStepKeepsTheInvariant :
    let s := { tracking 9 0x05 0 .patternH with port := [⟨0x1FC000001FC000004, literalHundredth⟩] }
    Inv s ∧ after (step s) (fun t => t.signalClock == 1) = true := by
  decide +kernel

theorem witness_NoStepStops : Inv (tracking 9 0x05 0 .patternH) := by decide +kernel

/-- The tenth L of an EOF after one byte, and an H at the start position after one byte (Truncated). -/
theorem witness_PublishedFramesAreWellFormed :
    let s := { presentSymKey 0b00110 State.reset with stream := { State.reset.stream with bits := 9, bytes := 1 } }
    let u := { presentSymKey 0b11010 State.reset with stream := { State.reset.stream with bytes := 1 } }
    (Inv s ∧ after (exec (.smp 0x3F400000 0x3F800000) s) (fun t => t.frameValid && t.frameOut.flags &&& 0x08 == 0) = true) ∧
    (Inv u ∧ after (exec (.smp 0x3F800000 0x3F800000) u) (fun t => t.frameValid && t.frameOut.flags &&& 0x08 == 0x08) = true) := by
  decide +kernel

end Sys2Proof.Tests
end

/-! Real arithmetic (00_scope R13). A pattern is written as `e * 2^frac + m`, the significand `m` counting units of the last place
`2^e`; so written it denotes `m * 2^e`, patterns are ordered as their numbers, and the two patterns on either side of an exact
quotient are neighbours. `roundMag` chooses between those two. -/

namespace Sys2Proof

/-! ## The number a pattern denotes -/

/-- The significand may reach `2^(frac+1)`: the carry into the exponent field denotes the same number. -/
theorem unitsOf_pattern {frac e m : Nat} (hlo : 0 < e → 2 ^ frac ≤ m) (hhi : m ≤ 2 ^ (frac + 1)) :
    Claims.unitsOf frac (e * 2 ^ frac + m) = m * 2 ^ e := by
  have hp : 0 < 2 ^ frac := Nat.two_pow_pos frac
  rw [Nat.pow_succ] at hhi
  rcases Nat.lt_or_ge m (2 ^ frac) with hsub | hnorm
  · obtain rfl : e = 0 := by by_contra h; have := hlo (by omega); omega
    simp [Claims.unitsOf, Nat.div_eq_of_lt hsub]
  · rcases Nat.lt_or_ge m (2 * 2 ^ frac) with hlt | hge
    · obtain ⟨r, rfl⟩ := Nat.exists_eq_add_of_le hnorm
      have hr : r < 2 ^ frac := by omega
      have hform : e * 2 ^ frac + (2 ^ frac + r) = r + 2 ^ frac * (e + 1) := by ring
      simp [Claims.unitsOf, hform, Nat.add_mul_div_left _ _ hp, Nat.div_eq_of_lt hr, Nat.mod_eq_of_lt hr]
    · obtain rfl : m = 2 * 2 ^ frac := by omega
      have hform : e * 2 ^ frac + 2 * 2 ^ frac = 2 ^ frac * (e + 2) := by ring
      simp only [Claims.unitsOf, hform, Nat.mul_div_cancel_left _ hp, Nat.mul_mod_right]
      rw [if_neg (by omega), show e + 2 - 1 = e + 1 by omega]
      ring

theorem exists_pattern (frac j : Nat) :
    ∃ e m, j = e * 2 ^ frac + m ∧ (0 < e → 2 ^ frac ≤ m) ∧ m < 2 ^ (frac + 1) := by
  have hp : 0 < 2 ^ frac := Nat.two_pow_pos frac
  have hdm := Nat.div_add_mod' j (2 ^ frac)
  have hr := Nat.mod_lt j hp
  rw [Nat.pow_succ]
  rcases Nat.eq_zero_or_pos (j / 2 ^ frac) with h0 | hpos
  · exact ⟨0, j, by omega, by omega, by rw [h0] at hdm; omega⟩
  · obtain ⟨e, he⟩ := Nat.exists_eq_add_of_le' hpos
    rw [he, Nat.add_mul] at hdm
    exact ⟨e, 2 ^ frac + j % 2 ^ frac, by omega, by omega, by omega⟩

theorem unitsOf_strictMono (frac : Nat) : StrictMono (Claims.unitsOf frac) := by
  refine strictMono_nat_of_lt_succ fun j => ?_
  obtain ⟨e, m, rfl, hlo, hhi⟩ := exists_pattern frac j
  rw [Nat.add_assoc, unitsOf_pattern hlo hhi.le, unitsOf_pattern (fun h => (hlo h).trans (Nat.le_add_right m 1)) hhi]
  exact Nat.mul_lt_mul_of_pos_right m.lt_succ_self (Nat.two_pow_pos e)

/-! ## Rounding chooses the nearer of two neighbours -/

/-- Two neighbouring patterns bracket the quotient at the distances `rest` and `ulp - rest`, and every other pattern lies beyond
them. So the nearer one is nearest of all, and at a tie the even one. -/
theorem nearestEven_of_bracket {frac num den ulp rest p mag : Nat} (hden : 0 < den) (hrest : rest < ulp)
    (hbelow : Claims.unitsOf frac p * den + rest = num)
    (habove : Claims.unitsOf frac (p + 1) * den + rest = num + ulp)
    (hmag : mag = p ∧ (2 * rest < ulp ∨ 2 * rest = ulp ∧ p % 2 = 0) ∨
      mag = p + 1 ∧ (ulp < 2 * rest ∨ 2 * rest = ulp ∧ p % 2 = 1)) :
    Claims.NearestEven frac num den mag := by
  have hmono : ∀ {i k}, i < k → Claims.unitsOf frac i * den < Claims.unitsOf frac k * den :=
    fun h => Nat.mul_lt_mul_of_pos_right (unitsOf_strictMono frac h) hden
  have hfar : ∀ j, j = p ∨ j = p + 1 ∨ Claims.unitsOf frac j * den < Claims.unitsOf frac p * den ∨
      Claims.unitsOf frac (p + 1) * den < Claims.unitsOf frac j * den := fun j => by
    rcases Nat.lt_trichotomy j p with h | h | h
    · exact .inr (.inr (.inl (hmono h)))
    · exact .inl h
    · rcases Nat.lt_or_eq_of_le (Nat.succ_le_of_lt h) with h' | h'
      · exact .inr (.inr (.inr (hmono h')))
      · exact .inr (.inl h'.symm)
  intro j
  simp only [Claims.distance]
  rcases hmag with ⟨rfl, hdown⟩ | ⟨rfl, hup⟩
  · rcases hfar j with rfl | rfl | h | h <;> omega
  · rcases hfar j with rfl | rfl | h | h <;> omega

theorem roundAt_cases (num ulp : Nat) :
    (roundAt num ulp = num / ulp ∧
      (2 * (num % ulp) < ulp ∨ 2 * (num % ulp) = ulp ∧ num / ulp % 2 = 0)) ∨
    (roundAt num ulp = num / ulp + 1 ∧
      (ulp < 2 * (num % ulp) ∨ 2 * (num % ulp) = ulp ∧ num / ulp % 2 = 1)) := by
  simp only [roundAt, Bool.or_eq_true, Bool.and_eq_true, decide_eq_true_eq]
  split
  · exact .inr ⟨rfl, ‹_›⟩
  · exact .inl ⟨rfl, by omega⟩

/-- 00_scope R13: the exact quotient is rounded once, to nearest even. -/
theorem nearestEven_roundMag {frac num den : Nat} (hfrac : 1 ≤ frac) (hden : 0 < den) :
    Claims.NearestEven frac num den (roundMag frac num den) := by
  obtain ⟨hhi, hlo⟩ := quotient_bounds (frac := frac) (num := num) (den := den)
  have hcases := roundAt_cases num (den * 2 ^ lastPlace frac num den)
  rw [roundMag_eq]
  generalize lastPlace frac num den = e at *
  have hulp : 0 < den * 2 ^ e := Nat.mul_pos hden (Nat.two_pow_pos e)
  have hsplit := Nat.div_add_mod' num (den * 2 ^ e)
  have hrest := Nat.mod_lt num hulp
  generalize num / (den * 2 ^ e) = m at *
  generalize num % (den * 2 ^ e) = rest at *
  have hbelow : Claims.unitsOf frac (e * 2 ^ frac + m) * den = m * (den * 2 ^ e) := by
    rw [unitsOf_pattern hlo hhi.le]; ring
  have habove : Claims.unitsOf frac (e * 2 ^ frac + m + 1) * den = m * (den * 2 ^ e) + den * 2 ^ e := by
    rw [Nat.add_assoc, unitsOf_pattern (fun h => (hlo h).trans (Nat.le_add_right m 1)) hhi]; ring
  have hparity : (e * 2 ^ frac + m) % 2 = m % 2 := by
    obtain ⟨f, rfl⟩ := Nat.exists_eq_add_of_le' hfrac
    rw [Nat.pow_succ, ← Nat.mul_assoc]; omega
  refine nearestEven_of_bracket hden hrest (p := e * 2 ^ frac + m) (by omega) (by omega) ?_
  rw [hparity, Nat.add_assoc]
  exact hcases.imp (fun ⟨h, h'⟩ => ⟨by rw [h], h'⟩) fun ⟨h, h'⟩ => ⟨by rw [h], h'⟩

/-! ## The operations -/

theorem roundsTo_round (neg : Bool) {num den : Nat} (hden : 0 < den) :
    Claims.RoundsTo neg num den (F32.round neg num den) := by
  refine ⟨roundMag 23 num den, nearestEven_roundMag (by omega) hden, ?_⟩
  unfold F32.round F32.ofMag
  split
  · exact .inl ⟨_, rfl, rfl⟩
  · exact .inr ⟨by omega, rfl⟩

theorem exact_eq_signed (neg : Bool) (m : Fin 0x7F800000) :
    Claims.exact neg m = F32.signed neg (F32.units m.val) := rfl

theorem F32.signed_not (neg : Bool) (n : Nat) : F32.signed (!neg) n = -F32.signed neg n := by
  cases neg <;> simp [F32.signed]

theorem natAbs_exact (neg : Bool) (m : Fin 0x7F800000) : (Claims.exact neg m).natAbs = F32.units m.val := by
  cases neg <;> simp [exact_eq_signed, F32.signed]

theorem F32.units_pos {m : Nat} (h : m ≠ 0) : 0 < F32.units m :=
  calc 0 = Claims.unitsOf 23 0 := rfl
    _ < Claims.unitsOf 23 m := unitsOf_strictMono 23 (Nat.pos_of_ne_zero h)

section
variable (na nb : Bool) (ma mb : Fin 0x7F800000)

theorem fadd_finite : fadd (.finite na ma) (.finite nb mb) =
    let sum := Claims.exact na ma + Claims.exact nb mb
    F32.round (if sum = 0 then na && nb else decide (sum < 0)) sum.natAbs 1 := rfl

theorem fsub_finite : fsub (.finite na ma) (.finite nb mb) =
    let diff := Claims.exact na ma - Claims.exact nb mb
    F32.round (if diff = 0 then na && !nb else decide (diff < 0)) diff.natAbs 1 := by
  rw [fsub, F32.addFinite, F32.signed_not, ← Int.sub_eq_add_neg]
  rfl

theorem fmul_finite : fmul (.finite na ma) (.finite nb mb) =
    F32.round (na != nb) ((Claims.exact na ma).natAbs * (Claims.exact nb mb).natAbs) (2 ^ 149) := by
  rw [natAbs_exact, natAbs_exact]; rfl

theorem fdiv_finite {mb : Fin 0x7F800000} (h : mb.val ≠ 0) : fdiv (.finite na ma) (.finite nb mb) =
    F32.round (na != nb) ((Claims.exact na ma).natAbs * 2 ^ 149) (Claims.exact nb mb).natAbs := by
  rw [natAbs_exact, natAbs_exact]; exact if_neg h

end

/-! ## The literals (70_reset_and_hazards R346) -/

theorem literalTenth_eq_round : literalTenth = F32.round false (2 ^ 149) 10 := by decide +kernel

theorem literalHalf_eq_round : literalHalf = F32.round false (2 ^ 149) 2 := by decide +kernel

theorem edgeMin_eq_round : edgeMin = F32.round false (2 ^ 149) 1000 := by decide +kernel

/-! ## Wall times (30_encoding R125) -/

theorem lastPlace_le {frac num den n : Nat} (h : num < 2 ^ n) : lastPlace frac num den ≤ n := by
  unfold lastPlace
  split
  · exact Nat.zero_le n
  · have hq : num / den < 2 ^ n := (Nat.div_le_self num den).trans_lt h
    have hne : num / den ≠ 0 := by have := Nat.two_pow_pos (frac + 1); omega
    have := (Nat.log2_lt hne).2 hq
    omega

theorem roundMag_le {frac num den n : Nat} (h : num < 2 ^ n) : roundMag frac num den ≤ (n + 2) * 2 ^ frac := by
  obtain ⟨hm, -⟩ := quotient_bounds (frac := frac) (num := num) (den := den)
  calc roundMag frac num den
    _ = lastPlace frac num den * 2 ^ frac + roundAt num (den * 2 ^ lastPlace frac num den) := roundMag_eq ..
    _ ≤ n * 2 ^ frac + 2 ^ (frac + 1) :=
      Nat.add_le_add (Nat.mul_le_mul_right _ (lastPlace_le h)) ((roundAt_le ..).trans hm)
    _ = (n + 2) * 2 ^ frac := by ring

theorem toNat_mul_two_pow_lt (sample : Time) (n : Nat) : sample.toNat * 2 ^ n < 2 ^ (64 + n) := by
  rw [Nat.pow_add]
  exact Nat.mul_lt_mul_of_pos_right sample.isLt (Nat.two_pow_pos n)

/-- A wall time's pattern fits in 64 bits: the sample count is below `2^64`, and dividing does not enlarge it. -/
theorem toNat_wallTime (sample : Time) {rate : U32} (h : rate ≠ 0) :
    (wallTime sample rate).toNat = roundMag 52 (sample.toNat * 2 ^ 1074) rate.toNat := by
  rw [wallTime, if_neg h, BitVec.toNat_ofNat]
  exact Nat.mod_eq_of_lt ((roundMag_le (toNat_mul_two_pow_lt sample 1074)).trans_lt (by norm_num))

theorem nearestEven_wallTime (sample : Time) {rate : U32} (h : rate ≠ 0) :
    Claims.NearestEven 52 (sample.toNat * 2 ^ 1074) rate.toNat (wallTime sample rate).toNat := by
  have hrate : 0 < rate.toNat := Nat.pos_of_ne_zero fun h0 => h (BitVec.eq_of_toNat_eq h0)
  exact toNat_wallTime sample h ▸ nearestEven_roundMag (by omega) hrate

/-! ## The obligation -/

/-- Settles O26: every operation is `F32.round` of its exact result, and `roundMag` picks the nearer of the two patterns that
bracket the exact quotient. -/
theorem roundingIsToNearestEven : Obligations.RoundingIsToNearestEven := by
  refine ⟨fun _ _ _ => nearestEven_roundMag, fun na nb ma mb => ⟨?_, ?_, ?_, fun hmb => ?_⟩, fun k => ?_, ?_, ?_, ?_,
    fun sample _ => nearestEven_wallTime sample⟩
  · exact fadd_finite na nb ma mb ▸ roundsTo_round _ Nat.one_pos
  · exact fsub_finite na nb ma mb ▸ roundsTo_round _ Nat.one_pos
  · exact fmul_finite na nb ma mb ▸ roundsTo_round _ (Nat.two_pow_pos 149)
  · exact fdiv_finite na nb ma hmb ▸ roundsTo_round _ (natAbs_exact nb mb ▸ F32.units_pos hmb)
  · exact roundsTo_round false Nat.one_pos
  · exact literalTenth_eq_round ▸ roundsTo_round false (by omega)
  · exact literalHalf_eq_round ▸ roundsTo_round false (by omega)
  · exact edgeMin_eq_round ▸ roundsTo_round false (by omega)

end Sys2Proof

/-! The state (10_state): its values after reset; the invariant, kept by every command; what each operation can do, said once as a
relation; and from that relation, who writes what. -/

namespace Sys2Proof.Machine

/-! ## The values after reset (10_state R58) -/

theorem winRead_reset (i : Time) : winRead State.reset i = F32.ofBits 0 := rfl

theorem paramsOf_reset (r : Rate) : paramsOf r State.reset = BitrateParams.reset := by cases r <;> rfl

theorem modOf_reset (r : Rate) : modOf r State.reset = ModulationStatus.reset := by cases r <;> rfl

/-- Settles O1: every register of `State.reset` is the spec's value, the tables and the detector registers rate by rate. -/
theorem resetHasTheSpecsValues : Obligations.ResetHasTheSpecsValues :=
  ⟨rfl, winRead_reset, rfl, rfl, rfl, rfl, rfl, rfl, rfl, paramsOf_reset, modOf_reset, rfl, rfl, rfl, rfl, rfl, rfl, rfl, rfl,
    rfl, rfl, rfl⟩

/-! ## The framer keeps its ranges (44_bit_byte_framer R240 to R242) -/

theorem decodeSym_fstart : ∀ p z n e f : Bool, decodeSym (packKey p z n e f) = .fstart → z = true ∧ f = false := by decide

theorem decodeSym_fdata :
    ∀ p z n e f : Bool, decodeSym (packKey p z n e f) = .fdata → z = false ∧ n = false ∧ f = false := by decide

theorem bytes_ne_256_of_not_full {s : State} (hmax : s.protocol.maxFrameSize = 256) (hf : bufferFull s = false) :
    s.stream.bytes.toNat ≠ 256 := by
  intro h
  have hb : s.stream.bytes = 256 := BitVec.eq_of_toNat_eq h
  simp [bufferFull, hmax, hb] at hf

theorem framerOk_of_cleared {st : StreamStatus} (hbits : st.bits = 0) (hdata : st.data = 0) (hbytes : st.bytes.toNat ≤ 256) :
    framerOk st := by
  refine ⟨?_, hbytes, ?_, fun _ => hbits⟩
  · rw [hbits]; decide
  · rw [hdata]; exact Nat.two_pow_pos _

theorem framerOk_start {st : StreamStatus} (h : framerOk st) (hz : st.bits = 0) (hb : st.bytes.toNat ≠ 256) :
    framerOk { st with bits := 1 } := by
  obtain ⟨-, hbytes, hdata, -⟩ := h
  rw [hz] at hdata
  exact ⟨Nat.one_le_ofNat, hbytes, hdata, fun h => absurd h hb⟩

/-- The new bit goes to the place above all bits seen so far, so one more place holds them all. -/
theorem shiftedData_lt {s : State} (hdata : s.stream.data.toNat < 2 ^ (s.stream.bits.toNat - 1))
    (hpos : 0 < s.stream.bits.toNat) : (shiftedData s).toNat < 2 ^ s.stream.bits.toNat := by
  have hne : s.stream.bits ≠ 0 := fun h => by simp [h] at hpos
  have hplaces : 2 ^ s.stream.bits.toNat = 2 * 2 ^ (s.stream.bits.toNat - 1) := by
    rw [← Nat.pow_succ', Nat.succ_eq_add_one, Nat.sub_add_cancel hpos]
  rw [shiftedData, if_neg hne, BitVec.toNat_or]
  refine Nat.or_lt_two_pow (by omega) ?_
  rw [hplaces, BitVec.toNat_shiftLeft, BitVec.toNat_setWidth, Nat.shiftLeft_eq]
  calc _ ≤ s.symbol.value.toNat % 2 ^ 8 * 2 ^ (s.stream.bits.toNat - 1) := Nat.mod_le ..
    _ < 2 * 2 ^ (s.stream.bits.toNat - 1) :=
      Nat.mul_lt_mul_of_pos_right ((Nat.mod_le ..).trans_lt s.symbol.value.isLt) (Nat.two_pow_pos _)

theorem framerOk_data {s : State} (h : framerOk s.stream) (hz : s.stream.bits ≠ 0) (hn : s.stream.bits ≠ 9)
    (hb : s.stream.bytes.toNat ≠ 256) :
    framerOk { s.stream with data := shiftedData s, bits := s.stream.bits + 1 } := by
  obtain ⟨hbits, hbytes, hdata, -⟩ := h
  have hpos : 0 < s.stream.bits.toNat := Nat.pos_of_ne_zero fun h0 => hz (BitVec.eq_of_toNat_eq h0)
  have hlt : s.stream.bits.toNat < 9 := Nat.lt_of_le_of_ne hbits fun h9 => hn (BitVec.eq_of_toNat_eq h9)
  have hsucc : (s.stream.bits + 1).toNat = s.stream.bits.toNat + 1 :=
    BitVec.toNat_add_of_lt (show s.stream.bits.toNat + 1 < 16 by omega)
  refine ⟨?_, hbytes, ?_, fun h => absurd h hb⟩
  · rw [hsucc]; exact hlt
  · rw [hsucc]; exact shiftedData_lt hdata hpos

theorem framerOk_pushed {s : State} (hb : s.stream.bytes.toNat < bufferCells) : framerOk (pushed s).stream := by
  unfold bufferCells at hb
  have hsucc : (s.stream.bytes + 1).toNat = s.stream.bytes.toNat + 1 :=
    BitVec.toNat_add_of_lt (show s.stream.bytes.toNat + 1 < 65536 by omega)
  exact framerOk_of_cleared rfl rfl (hsucc.trans_le hb)

theorem bufferOk_pushed {s : State} (h : bufferOk s.stream) (hb : s.stream.bytes.toNat < bufferCells) :
    bufferOk (pushed s).stream :=
  ⟨Memory.wf_write _ _ h.1, Memory.below_write _ h.2 hb⟩

/-! ## The invariant, a returned value aside

Inside a sample step a micro-operation's value stands in `returned`; the rest of the invariant holds all along. -/

abbrev Lawful (s : State) : Prop := Inv (returning .nothing s)

theorem inv_sampled {s : State} (h : Inv s) (a b : U32) : Inv (sampled a b s) := by
  obtain ⟨hwindow, hrest⟩ := h
  exact ⟨windowOk_ingest a b hwindow, hrest⟩

theorem stepRate_eq {s : State} (h : selectorOk s) : stepRate s = .k106 := by
  unfold stepRate
  split
  · exact h.1
  · rfl

theorem lawful_edged {s : State} (h : Inv s) (a b : U32) : Lawful (edged a b s) := by
  obtain ⟨hwindow, hbuffer, hframer, hconfig, hsearch, hselector, hchained, -⟩ := inv_sampled h a b
  rw [edged, stepRate_eq (s := s) hselector]
  exact ⟨hwindow, hbuffer, hframer, hconfig, hsearch, hselector, hchained, rfl⟩

theorem lawful_of_searchOnly {s t : State} (h : Lawful s) (ht : SearchOnly s t) : Lawful t := by
  obtain ⟨m, x, rfl, -, hstage⟩ := ht
  obtain ⟨hwindow, hbuffer, hframer, hconfig, ⟨hold, hrates⟩, hrest⟩ := h
  exact ⟨hwindow, hbuffer, hframer, hconfig, ⟨hstage hold, hrates⟩, hrest⟩

theorem lawful_of_searchConfirms {s t : State} (h : Lawful s) (ht : SearchConfirms s t) : Lawful t := by
  obtain ⟨m, fs, x, rfl, -, hstage⟩ := ht
  obtain ⟨hwindow, hbuffer, hframer, hconfig, ⟨hold, hrates⟩, -, hquiet⟩ := h
  exact ⟨hwindow, hbuffer, hframer, hconfig, ⟨hstage ▸ hold, hrates⟩, ⟨rfl, rfl⟩, hquiet⟩

theorem lawful_track {s : State} (h : Lawful s) : Lawful (track s) := by
  obtain ⟨hwindow, hbuffer, hframer, hconfig, ⟨hold, hrates⟩, ⟨hrate, htype⟩, hquiet⟩ := h
  obtain ⟨m, sym, x, heq, -, hstage, -⟩ := track_shape s
  rw [show s.activeRate = .k106 from hrate] at heq hstage
  rw [heq]
  exact ⟨hwindow, hbuffer, hframer, hconfig, ⟨hstage ▸ hold, hrates⟩, ⟨rfl, htype⟩, hquiet⟩

/-- `RSTM` brings the framer, the stage and the selectors into their ranges whatever they were. -/
theorem lawful_resetModulation {s : State} (hwindow : windowOk s) (hbuffer : bufferOk s.stream) (hconfig : configOk s)
    (h212 : s.mods.k212 = ModulationStatus.reset) (h424 : s.mods.k424 = ModulationStatus.reset)
    (hchained : s.chainedFlags = 0) : Lawful (resetModulation s) :=
  ⟨hwindow, hbuffer, framerOk_of_cleared rfl rfl (Nat.zero_le 256), hconfig,
    ⟨nofun, congrArg ModulationStatus.resetTimes h212, congrArg ModulationStatus.resetTimes h424⟩, ⟨rfl, rfl⟩, hchained, rfl⟩

theorem lawful_terminated {s : State} (h : Lawful s) (trunc : Bool) : Lawful (terminated trunc s) := by
  obtain ⟨hwindow, hbuffer, -, hconfig, ⟨-, h212, h424⟩, -, hchained, -⟩ := h
  unfold terminated
  split
  · exact lawful_resetModulation hwindow hbuffer hconfig h212 h424 hchained
  · obtain ⟨fr, ps, c, heq, hps, hc, -⟩ := finalised_shape trunc s
    rw [heq]
    refine lawful_resetModulation hwindow hbuffer (fun hrun => ?_) h212 h424 ?_
    · obtain ⟨hmax, herror⟩ := hconfig hrun
      exact ⟨hps.elim (fun h => h ▸ hmax) (fun h => h ▸ rfl), herror⟩
    · exact hc.elim (fun h => h.trans hchained) id

theorem lawful_of_framed {s t : State} (h : Lawful s) (hrun : s.configured = true) (ht : Framed (decodeSym (symKey s)) s t) :
    Lawful t := by
  have ⟨hwindow, hbuffer, hframer, hconfig, hrest⟩ := h
  have hmax : s.protocol.maxFrameSize = 256 := (hconfig hrun).1
  cases ht with
  | ends trunc _ ht => exact ht ▸ lawful_terminated h trunc
  | starts hop ht =>
    obtain ⟨hz, hf⟩ := decodeSym_fstart _ _ _ _ _ hop
    subst ht
    exact ⟨hwindow, hbuffer, framerOk_start hframer (eq_of_beq hz) (bytes_ne_256_of_not_full hmax hf), hconfig, hrest⟩
  | data hop ht =>
    obtain ⟨hz, hn, hf⟩ := decodeSym_fdata _ _ _ _ _ hop
    subst ht
    exact ⟨hwindow, hbuffer, framerOk_data hframer (ne_of_beq_false hz) (ne_of_beq_false hn) (bytes_ne_256_of_not_full hmax hf),
      hconfig, hrest⟩
  | pushes _ hb ht =>
    subst ht
    exact ⟨hwindow, bufferOk_pushed hbuffer hb, framerOk_pushed hb, hconfig, hrest⟩

/-! ## The invariant, command by command -/

/-- Settles O3: by evaluation of the one state. -/
theorem invariantHoldsAtReset : Obligations.InvariantHoldsAtReset := by
  show Inv State.reset
  decide

theorem inv_execRst {s t : State} (h : execRst s = .next t) : Inv t := by
  cases h
  obtain ⟨⟨hwf, -⟩, hrest⟩ := invariantHoldsAtReset
  exact ⟨⟨hwf, nofun⟩, hrest⟩

theorem inv_execThr {s t : State} {min max : U32} (hs : Inv s) (h : execThr min max s = .next t) : Inv t := by
  unfold execThr at h
  split at h <;> cases h <;> exact hs

theorem lawful_loadedConfiguration {s : State} (hs : Inv s) (herror : s.configError = false) (rate : U32) :
    Lawful (resetModulation (loadConfiguration rate s)) := by
  obtain ⟨hwindow, hbuffer, -, -, ⟨-, h212, h424⟩, -⟩ := hs
  exact lawful_resetModulation hwindow hbuffer (fun _ => ⟨rfl, herror⟩)
    (congrArg ModulationStatus.clearIntegrators h212) (congrArg ModulationStatus.clearIntegrators h424) rfl

theorem inv_execCfg {s t : State} {rate : U32} (hs : Inv s) (h : execCfg rate s = .next t) : Inv t := by
  have ⟨hwindow, hbuffer, hframer, _, hsearch, hselector, hquiet⟩ := hs
  unfold execCfg at h
  split at h
  · cases h; exact hs
  · have herror : s.configError = false := eq_false_of_ne_true ‹_›
    split at h <;> cases h
    · exact ⟨hwindow, hbuffer, hframer, nofun, hsearch, hselector, hquiet⟩
    · obtain ⟨hwindow, hbuffer, hframer, -, hsearch, hselector, hchained, -⟩ := lawful_loadedConfiguration hs herror rate
      exact ⟨hwindow, hbuffer, hframer, fun _ => ⟨rfl, herror⟩, hsearch, hselector, hchained, hquiet.2⟩

theorem track_configured (s : State) : (track s).configured = s.configured := by
  obtain ⟨m, sym, x, heq, -⟩ := track_shape s
  rw [heq]

theorem inv_execSmp {s t : State} {a b : U32} (hs : Inv s) (h : execSmp a b s = .next t) : Inv t := by
  have hedged : Lawful (edged a b s) := lawful_edged hs a b
  cases execSmp_cases h with
  | idle => exact inv_sampled hs a b
  | listen => exact hedged
  | search _ _ _ ht => exact lawful_of_searchOnly hedged ht
  | confirm _ _ _ _ ht => exact lawful_of_searchConfirms hedged ht
  | noSymbol => exact lawful_track hedged
  | symbol hrun _ _ ht =>
    obtain ⟨hconfigured, -⟩ := Bool.and_eq_true_iff.1 hrun
    exact lawful_of_framed (lawful_track hedged) ((track_configured _).trans hconfigured) ht

/-- Settles O58: a step is one command, and each command keeps the invariant; the pin and the port are no part of it. -/
theorem everyStepKeepsTheInvariant : Obligations.EveryStepKeepsTheInvariant := by
  intro s t hs h
  unfold step takeCommand at h
  cases hport : s.port with
  | nil => rw [hport] at h; cases h; exact hs
  | cons c rest =>
    rw [hport] at h
    change exec (decodeCmd c.word) { s with port := rest, powerLevelThreshold := c.pin } = .next t at h
    have hu : Inv { s with port := rest, powerLevelThreshold := c.pin } := hs
    unfold decodeCmd at h
    split at h
    case h_1 => cases h; exact hu
    case h_2 => exact inv_execRst h
    case h_3 => exact inv_execThr hu h
    case h_4 => exact inv_execCfg hu h
    case h_5 => exact inv_execSmp hu h
    all_goals cases h; exact hu

/-! ## The strobes (10_state R52) -/

/-- A strobe of the framer comes with the end of the frame. -/
theorem framed_strobes {op : SymOp} {s t : State} (ht : Framed op s t) :
    t.sofConfirmed = s.sofConfirmed ∧ (t.frameValid = true → s.frameValid = true ∨ t.activeValid = false) := by
  cases ht with
  | ends trunc _ ht =>
    subst ht
    refine ⟨?_, fun _ => .inr rfl⟩
    unfold terminated
    split
    · rfl
    · obtain ⟨fr, ps, c, heq, -⟩ := finalised_shape trunc s
      rw [heq]; rfl
  | starts _ ht => exact ht ▸ ⟨rfl, .inl⟩
  | data _ ht => exact ht ▸ ⟨rfl, .inl⟩
  | pushes _ _ ht => exact ht ▸ ⟨rfl, .inl⟩

theorem track_strobes (s : State) : (track s).activeValid = s.activeValid ∧ (track s).sofConfirmed = s.sofConfirmed ∧
    (track s).frameValid = s.frameValid := by
  obtain ⟨m, sym, x, heq, -⟩ := track_shape s
  rw [heq]; exact ⟨rfl, rfl, rfl⟩

theorem strobes_of_selector_kept {s t : State} (hv : t.activeValid = s.activeValid) (hsof : t.sofConfirmed = false)
    (hvalid : t.frameValid = false) :
    (t.sofConfirmed = true ↔ s.activeValid = false ∧ t.activeValid = true) ∧
      (t.frameValid = true → s.activeValid = true ∧ t.activeValid = false) := by
  simp [hv, hsof, hvalid]

/-- Settles O14: an `SMP` clears both strobes, so what stands afterwards was set on its way: `sofConfirmed` by a confirmation, which
begins to track, and `frameValid` by a terminator, which ends it. -/
theorem strobesMarkTheirOwnSmp : Obligations.StrobesMarkTheirOwnSmp := by
  intro s t a b h
  cases execSmp_cases h with
  | idle => exact strobes_of_selector_kept rfl rfl rfl
  | listen => exact strobes_of_selector_kept rfl rfl rfl
  | search _ _ _ ht =>
    obtain ⟨m, x, rfl, -⟩ := ht
    exact strobes_of_selector_kept rfl rfl rfl
  | confirm _ hv _ _ ht =>
    obtain ⟨m, fs, x, rfl, -⟩ := ht
    exact ⟨⟨fun _ => ⟨hv, rfl⟩, fun _ => rfl⟩, nofun⟩
  | noSymbol =>
    obtain ⟨hv, hsof, hvalid⟩ := track_strobes (edged a b s)
    exact strobes_of_selector_kept hv hsof hvalid
  | symbol _ hv _ ht =>
    obtain ⟨-, hsof, hvalid⟩ := track_strobes (edged a b s)
    obtain ⟨hsof', hvalid'⟩ := framed_strobes ht
    refine ⟨⟨fun h => ?_, fun ⟨hs, _⟩ => ?_⟩, fun h => ⟨hv, (hvalid' h).resolve_left fun h => ?_⟩⟩
    · cases (hsof'.trans hsof).symm.trans h
    · cases hv.symm.trans hs
    · cases hvalid.symm.trans h

/-! ## What each operation can do -/

/-- The operations of the core: all but the commands, `INGEST` and `EDGE`. -/
inductive CoreStep (s : State) : Instr → State → Prop
  | searches {i t} (hi : i ∈ [.sofhold, .sofovr, .sofb, .sofi, .sofe, .sofx, .sofabt]) (ht : SearchOnly s t) : CoreStep s i t
  | confirms {i t} (hi : i = .sofe ∨ i = .sofconf) (ht : SearchConfirms s t) : CoreStep s i t
  | tracks : CoreStep s .trk (track s)
  | frames {op t} (ht : Framed op s t) : CoreStep s op.toInstr t
  | terminates (trunc : Bool) : CoreStep s (.fterm trunc) (terminated trunc s)
  | finalises (trunc : Bool) : CoreStep s (.fin trunc) (finalised trunc s)
  | classifies (f : FrameRecord) : CoreStep s (.cls f) (classify f s)
  | checks (f : FrameRecord) : CoreStep s (.crc f) (returning (.crc (crcCheck f.payload)) s)
  | resets : CoreStep s .rstm (resetModulation s)
  | listens : CoreStep s .lstn (listenHook s)

/-- Every operation that answers a next state, by the state it leaves. -/
inductive Executed (s : State) : Instr → State → Prop
  | ignores {i} (hi : i ∈ [.nop, .rsv5, .rsv6, .rsv7]) : Executed s i s
  | refuses {i} (herror : s.configError = true) (hi : (∃ min max, i = .thr min max) ∨ ∃ rate, i = .cfg rate) : Executed s i s
  | resets : Executed s .rst
      { State.reset with powerLevelThreshold := s.powerLevelThreshold, windowBits := s.windowBits, port := s.port }
  | thresholds (min max : U32) : Executed s (.thr min max)
      { s with minimumModulationThreshold := F32.ofBits min, maximumModulationThreshold := F32.ofBits max }
  | fails (rate : U32) : Executed s (.cfg rate) (raiseConfigError s)
  | configures (rate : U32) (herror : s.configError = false) :
      Executed s (.cfg rate) (finishConfiguration (resetModulation (loadConfiguration rate s)))
  | samples {a b : U32} {t} (ht : Sampled a b s t) : Executed s (.smp a b) t
  | ingests (a b : U32) : Executed s (.ingest a b) (ingest a b s)
  | edges (r : Rate) : Executed s (.edge r) (edgeOp r s)
  | core {i t} (ht : CoreStep s i t) : Executed s i t

theorem sofAbort_searchOnly (s : State) : SearchOnly s (sofAbort s) :=
  ⟨s.mods.k106.abortSearch, s.returned, rfl, ⟨rfl, rfl, rfl, rfl⟩, fun _ => nofun⟩

theorem finalise_eq_next {trunc : Bool} {s t : State} (h : finalise trunc s = .next t) : t = finalised trunc s := by
  by_cases hb : s.stream.bytes.toNat ≤ bufferCells
  · rw [finalise_of_le hb] at h; cases h; rfl
  · rw [finalise, if_neg hb] at h; cases h

theorem execThr_cases {min max : U32} {s t : State} (h : execThr min max s = .next t) : Executed s (.thr min max) t := by
  unfold execThr at h
  split at h <;> cases h
  · exact .refuses ‹_› (.inl ⟨min, max, rfl⟩)
  · exact .thresholds min max

theorem execCfg_cases {rate : U32} {s t : State} (h : execCfg rate s = .next t) : Executed s (.cfg rate) t := by
  unfold execCfg at h
  split at h
  · cases h; exact .refuses ‹_› (.inr ⟨rate, rfl⟩)
  · split at h <;> cases h
    · exact .fails rate
    · exact .configures rate (eq_false_of_ne_true ‹_›)

theorem executed_of_runSym (op : SymOp) {s t : State} (h : runSym op s = .next t) : Executed s op.toInstr t :=
  .core (.frames (runSym_cases h))

theorem exec_cases {i : Instr} {s t : State} (h : exec i s = .next t) : Executed s i t := by
  cases i with
  | nop | rsv5 | rsv6 | rsv7 => cases h; exact .ignores (by simp)
  | rst => cases h; exact .resets
  | thr => exact execThr_cases h
  | cfg => exact execCfg_cases h
  | smp => exact .samples (execSmp_cases h)
  | ingest => cases h; exact .ingests _ _
  | edge => cases h; exact .edges _
  | sofhold => cases h; exact .core (.searches (by simp) (noDetection_searchOnly s))
  | sofovr | sofx => cases h; exact .core (.searches (by simp) (abort_searchOnly s))
  | sofb => cases h; exact .core (.searches (by simp) (sofBegin_searchOnly s))
  | sofi => cases h; exact .core (.searches (by simp) (sofIdle_searchOnly s))
  | sofe =>
    cases h
    rcases sofEnd_cases s with hs | hs
    · exact .core (.searches (by simp) hs)
    · exact .core (.confirms (.inl rfl) hs)
  | sofabt => cases h; exact .core (.searches (by simp) (sofAbort_searchOnly s))
  | sofconf => cases h; exact .core (.confirms (.inr rfl) (sofConfirm_confirms s))
  | trk => cases h; exact .core .tracks
  | feof => exact executed_of_runSym .feof h
  | fserrStart => exact executed_of_runSym .fserrStart h
  | fserrStop => exact executed_of_runSym .fserrStop h
  | ftruncStart => exact executed_of_runSym .ftruncStart h
  | ftruncData => exact executed_of_runSym .ftruncData h
  | ftruncStop => exact executed_of_runSym .ftruncStop h
  | fstart => exact executed_of_runSym .fstart h
  | fdata => exact executed_of_runSym .fdata h
  | fpush => exact executed_of_runSym .fpush h
  | fterm trunc => obtain ⟨-, rfl⟩ := terminate_eq_next h; exact .core (.terminates trunc)
  | fin trunc => obtain rfl := finalise_eq_next h; exact .core (.finalises trunc)
  | cls => cases h; exact .core (.classifies _)
  | crc => cases h; exact .core (.checks _)
  | rstm => cases h; exact .core .resets
  | lstn => cases h; exact .core .listens

/-! ## What the core leaves alone -/

/-- `s` with the registers that the core writes taken from `t`. -/
def withCoreOf (s t : State) : State :=
  { s with
    mods := t.mods, symbol := t.symbol, stream := t.stream, frame := t.frame, protocol := t.protocol
    activeValid := t.activeValid, activeRate := t.activeRate, chainedFlags := t.chainedFlags, frameOut := t.frameOut
    sofConfirmed := t.sofConfirmed, frameValid := t.frameValid, returned := t.returned }

/-- From `s` to `t` only core registers change, and no integrator among them. -/
structure CoreKeeps (s t : State) : Prop where
  registers : t = withCoreOf s t
  integrators : ∀ q, SameIntegrators (modOf q s) (modOf q t)

theorem CoreKeeps.refl (s : State) : CoreKeeps s s := ⟨rfl, fun _ => .refl _⟩

theorem CoreKeeps.trans {s t u : State} (h : CoreKeeps s t) (k : CoreKeeps t u) : CoreKeeps s u where
  registers := calc u
    _ = withCoreOf t u := k.registers
    _ = withCoreOf (withCoreOf s t) u := by rw [← h.registers]
    _ = withCoreOf s u := rfl
  integrators q := (h.integrators q).trans (k.integrators q)

theorem sameIntegrators_perRateSet {t : PerRate ModulationStatus} {r : Rate} {m : ModulationStatus}
    (h : SameIntegrators (perRateGet t r) m) (q : Rate) : SameIntegrators (perRateGet t q) (perRateGet (perRateSet t r m) q) := by
  by_cases hq : q = r
  · subst hq; rwa [perRateGet_set_same]
  · rw [perRateGet_set_ne _ _ hq]; exact .refl _

theorem SearchOnly.keeps {s t : State} (h : SearchOnly s t) : CoreKeeps s t := by
  obtain ⟨m, x, rfl, hm, -⟩ := h
  exact ⟨rfl, sameIntegrators_perRateSet (r := .k106) hm⟩

theorem SearchConfirms.keeps {s t : State} (h : SearchConfirms s t) : CoreKeeps s t := by
  obtain ⟨m, fs, x, rfl, hm, -⟩ := h
  exact ⟨rfl, sameIntegrators_perRateSet (r := .k106) hm⟩

theorem track_keeps (s : State) : CoreKeeps s (track s) := by
  obtain ⟨m, sym, x, heq, hm, -⟩ := track_shape s
  rw [heq]
  exact ⟨rfl, sameIntegrators_perRateSet hm⟩

theorem classify_keeps (f : FrameRecord) (s : State) : CoreKeeps s (classify f s) := by
  obtain ⟨fr, ps, c, heq, -⟩ := classify_shape f s
  rw [heq]
  exact ⟨rfl, fun _ => .refl _⟩

theorem finalised_keeps (trunc : Bool) (s : State) : CoreKeeps s (finalised trunc s) := by
  obtain ⟨fr, ps, c, heq, -⟩ := finalised_shape trunc s
  rw [heq]
  exact ⟨rfl, fun _ => .refl _⟩

theorem resetModulation_keeps (s : State) : CoreKeeps s (resetModulation s) where
  registers := rfl
  integrators q := by cases q <;> exact ⟨rfl, rfl, rfl, rfl⟩

theorem terminated_keeps (trunc : Bool) (s : State) : CoreKeeps s (terminated trunc s) := by
  unfold terminated
  split
  · exact resetModulation_keeps s
  · exact (finalised_keeps trunc s).trans (resetModulation_keeps _)

theorem Framed.keeps {op : SymOp} {s t : State} (h : Framed op s t) : CoreKeeps s t := by
  cases h with
  | ends trunc _ ht => exact ht ▸ terminated_keeps trunc s
  | starts _ ht => exact ht ▸ ⟨rfl, fun _ => .refl _⟩
  | data _ ht => exact ht ▸ ⟨rfl, fun _ => .refl _⟩
  | pushes _ _ ht => exact ht ▸ ⟨rfl, fun _ => .refl _⟩

theorem returning_keeps (x : Returned) (s : State) : CoreKeeps s (returning x s) := ⟨rfl, fun _ => .refl _⟩

theorem CoreStep.keeps {i : Instr} {s t : State} (h : CoreStep s i t) : CoreKeeps s t := by
  cases h with
  | searches _ ht => exact ht.keeps
  | confirms _ ht => exact ht.keeps
  | tracks => exact track_keeps s
  | frames ht => exact ht.keeps
  | terminates trunc => exact terminated_keeps trunc s
  | finalises trunc => exact finalised_keeps trunc s
  | classifies f => exact classify_keeps f s
  | checks f => exact returning_keeps _ s
  | resets => exact resetModulation_keeps s
  | listens => exact returning_keeps _ s

/-- After the ingest, and `EDGE` where the block runs, an `SMP` is an operation of the core. -/
theorem Sampled.keeps {a b : U32} {s t : State} (h : Sampled a b s t) :
    CoreKeeps (sampled a b s) t ∨ CoreKeeps (edged a b s) t := by
  cases h with
  | idle => exact .inl (.refl _)
  | listen => exact .inr (returning_keeps _ _)
  | search _ _ _ ht => exact .inr (ht.keeps.trans (returning_keeps _ _))
  | confirm _ _ _ _ ht => exact .inr (ht.keeps.trans (returning_keeps _ _))
  | noSymbol => exact .inr ((track_keeps _).trans (returning_keeps _ _))
  | symbol _ _ _ ht => exact .inr (((track_keeps _).trans ht.keeps).trans (returning_keeps _ _))

theorem Sampled.registers {a b : U32} {s t : State} (h : Sampled a b s t) : t = withCoreOf (ingest a b s) t :=
  h.keeps.elim (·.registers) (·.registers)

/-! ## Who writes what -/

/-- Settles O52: of the operations left, the commands write configuration registers and the others core registers. -/
theorem coreNeverWritesTheSignalSource : Obligations.CoreNeverWritesTheSignalSource := by
  intro i s t h hrst hsource
  cases exec_cases h with
  | resets => exact absurd rfl hrst
  | samples => exact absurd rfl (hsource _ _).1
  | ingests => exact absurd rfl (hsource _ _).2
  | core ht => rw [ht.keeps.registers]; exact ⟨rfl, rfl, rfl⟩
  | _ => exact ⟨rfl, rfl, rfl⟩

/-- Settles O53: the configuration registers are none of the core's, and `INGEST` writes the signal source only. -/
theorem configurationHasItsOwnWriters : Obligations.ConfigurationHasItsOwnWriters := by
  intro i s t h hrst
  cases exec_cases h with
  | resets => exact absurd rfl hrst
  | thresholds => exact ⟨fun hthr => absurd rfl (hthr _ _), fun _ => ⟨rfl, rfl, rfl, rfl, rfl⟩⟩
  | fails => exact ⟨fun _ => ⟨rfl, rfl⟩, fun hcfg => absurd rfl (hcfg _)⟩
  | configures => exact ⟨fun _ => ⟨rfl, rfl⟩, fun hcfg => absurd rfl (hcfg _)⟩
  | samples ht => rw [ht.registers]; exact ⟨fun _ => ⟨rfl, rfl⟩, fun _ => ⟨rfl, rfl, rfl, rfl, rfl⟩⟩
  | core ht => rw [ht.keeps.registers]; exact ⟨fun _ => ⟨rfl, rfl⟩, fun _ => ⟨rfl, rfl, rfl, rfl, rfl⟩⟩
  | _ => exact ⟨fun _ => ⟨rfl, rfl⟩, fun _ => ⟨rfl, rfl, rfl, rfl, rfl⟩⟩

/-- Settles O57: the three fields are in no operation's writes, and `RST` carries them over. -/
theorem inputsAreNeverWritten : Obligations.InputsAreNeverWritten := by
  intro i s t h
  cases exec_cases h with
  | samples ht => rw [ht.registers]; exact ⟨rfl, rfl, rfl⟩
  | core ht => rw [ht.keeps.registers]; exact ⟨rfl, rfl, rfl⟩
  | _ => exact ⟨rfl, rfl, rfl⟩

/-! ## Who writes the integrators -/

theorem edgeOp_reserved (r q : Rate) (s : State) :
    (modOf q (edgeOp r s)).phaseIntegrate = (modOf q s).phaseIntegrate ∧
      (modOf q (edgeOp r s)).searchDeepValue = (modOf q s).searchDeepValue := by
  by_cases hq : q = r
  · subst hq; rw [modOf_edgeOp_same]; exact ⟨rfl, rfl⟩
  · rw [modOf_edgeOp_other hq]; exact ⟨rfl, rfl⟩

theorem Sampled.reserved {a b : U32} {s t : State} (h : Sampled a b s t) (q : Rate) :
    (modOf q t).phaseIntegrate = (modOf q s).phaseIntegrate ∧ (modOf q t).searchDeepValue = (modOf q s).searchDeepValue := by
  rcases h.keeps with hk | hk
  · obtain ⟨-, -, hphase, hdeep⟩ := hk.integrators q
    exact ⟨hphase, hdeep⟩
  · obtain ⟨-, -, hphase, hdeep⟩ := hk.integrators q
    obtain ⟨hphase', hdeep'⟩ := edgeOp_reserved (stepRate s) q (sampled a b s)
    exact ⟨hphase.trans hphase', hdeep.trans hdeep'⟩

/-- Settles O55: the core keeps all four registers of every rate; `EDGE`, and so `SMP`, keeps the reserved two. -/
theorem onlyEdgeAndConfigurationWriteIntegrators : Obligations.OnlyEdgeAndConfigurationWriteIntegrators := by
  intro i s t q h hrst hcfg
  cases exec_cases h with
  | resets => exact absurd rfl hrst
  | fails => exact absurd rfl (hcfg _)
  | configures => exact absurd rfl (hcfg _)
  | samples ht =>
    obtain ⟨hphase, hdeep⟩ := ht.reserved q
    exact ⟨hphase, hdeep, fun _ hsmp => absurd rfl (hsmp _ _)⟩
  | edges r =>
    obtain ⟨hphase, hdeep⟩ := edgeOp_reserved r q s
    exact ⟨hphase, hdeep, fun hedge => absurd rfl (hedge r)⟩
  | core ht =>
    obtain ⟨hfilter, hdetect, hphase, hdeep⟩ := ht.keeps.integrators q
    exact ⟨hphase, hdeep, fun _ _ => ⟨hfilter, hdetect⟩⟩
  | _ => exact ⟨rfl, rfl, fun _ _ => ⟨rfl, rfl⟩⟩

/-! ## Who writes the selectors (10_state R50) -/

/-- Neither S60 nor S61 changes. -/
def KeepsSelectors (s t : State) : Prop := t.activeValid = s.activeValid ∧ t.activeRate = s.activeRate

/-- Tracking has ended and the search is at its start (47_reset_and_dispatch R295). -/
def SearchesAgain (t : State) : Prop := t.activeValid = false ∧ t.activeRate = .k106 ∧ t.mods.k106.searchStage = .beginStage

/-- What an operation can do to the selectors. -/
inductive Selected (i : Instr) (s t : State) : Prop
  | keeps (h : KeepsSelectors s t)
  | sets (hi : Claims.SetsSelectors i) (h : t.activeValid = true ∧ t.activeRate = .k106)
  | clears (hi : Claims.ClearsSelectors i) (h : SearchesAgain t)

theorem SearchOnly.keepsSelectors {s t : State} (h : SearchOnly s t) : KeepsSelectors s t := by
  obtain ⟨m, x, rfl, -⟩ := h
  exact ⟨rfl, rfl⟩

theorem SearchConfirms.setsSelectors {s t : State} (h : SearchConfirms s t) : t.activeValid = true ∧ t.activeRate = .k106 := by
  obtain ⟨m, fs, x, rfl, -⟩ := h
  exact ⟨rfl, rfl⟩

theorem track_keepsSelectors (s : State) : KeepsSelectors s (track s) := by
  obtain ⟨m, sym, x, heq, -⟩ := track_shape s
  rw [heq]
  exact ⟨rfl, rfl⟩

theorem classify_keepsSelectors (f : FrameRecord) (s : State) : KeepsSelectors s (classify f s) := by
  obtain ⟨fr, ps, c, heq, -⟩ := classify_shape f s
  rw [heq]
  exact ⟨rfl, rfl⟩

theorem Framed.selectors {op : SymOp} {s t : State} (h : Framed op s t) :
    KeepsSelectors s t ∨ (Claims.ClearsSelectors op.toInstr ∧ SearchesAgain t) := by
  cases h with
  | ends trunc _ ht _ hn =>
    subst ht
    refine .inr ⟨?_, rfl, rfl, rfl⟩
    cases op <;> simp_all [Claims.ClearsSelectors, SymOp.toInstr]
  | starts _ ht => exact .inl (ht ▸ ⟨rfl, rfl⟩)
  | data _ ht => exact .inl (ht ▸ ⟨rfl, rfl⟩)
  | pushes _ _ ht => exact .inl (ht ▸ ⟨rfl, rfl⟩)

theorem CoreStep.selected {i : Instr} {s t : State} (h : CoreStep s i t) : Selected i s t := by
  cases h with
  | searches _ ht => exact .keeps ht.keepsSelectors
  | confirms hi ht => exact .sets (hi.imp id .inl) ht.setsSelectors
  | tracks => exact .keeps (track_keepsSelectors s)
  | frames ht => exact ht.selectors.elim .keeps fun ⟨hi, hs⟩ => .clears hi hs
  | terminates trunc => exact .clears (by simp [Claims.ClearsSelectors]) ⟨rfl, rfl, rfl⟩
  | finalises trunc => exact .keeps (classify_keepsSelectors _ _)
  | classifies f => exact .keeps (classify_keepsSelectors f s)
  | checks => exact .keeps ⟨rfl, rfl⟩
  | resets => exact .clears (by simp [Claims.ClearsSelectors]) ⟨rfl, rfl, rfl⟩
  | listens => exact .keeps ⟨rfl, rfl⟩

theorem Sampled.selected {a b : U32} {s t : State} (h : Sampled a b s t) : Selected (.smp a b) s t := by
  have hsets : Claims.SetsSelectors (.smp a b) := .inr (.inr ⟨a, b, rfl⟩)
  have hclears : Claims.ClearsSelectors (.smp a b) := by simp [Claims.ClearsSelectors]
  cases h with
  | idle => exact .keeps ⟨rfl, rfl⟩
  | listen => exact .keeps ⟨rfl, rfl⟩
  | search _ _ _ ht => exact .keeps ht.keepsSelectors
  | confirm _ _ _ _ ht => exact .sets hsets ht.setsSelectors
  | noSymbol => exact .keeps (track_keepsSelectors (edged a b s))
  | symbol _ _ _ ht =>
    obtain ⟨hv, hr⟩ := track_keepsSelectors (edged a b s)
    rcases ht.selectors with ⟨hv', hr'⟩ | ⟨-, hs⟩
    · exact .keeps ⟨hv'.trans hv, hr'.trans hr⟩
    · exact .clears hclears hs

theorem exec_selected {i : Instr} {s t : State} (h : exec i s = .next t) : Selected i s t := by
  cases exec_cases h with
  | resets => exact .clears (.inl rfl) ⟨rfl, rfl, rfl⟩
  | configures rate => exact .clears (.inr (.inl ⟨rate, rfl⟩)) ⟨rfl, rfl, rfl⟩
  | samples ht => exact ht.selected
  | core ht => exact ht.selected
  | _ => exact .keeps ⟨rfl, rfl⟩

/-- Settles O54: an operation keeps the selectors, sets them as a setter or clears them as a clearer. -/
theorem selectorsHaveTwoWriters : Obligations.SelectorsHaveTwoWriters := by
  intro i s t h
  cases exec_selected h with
  | keeps hk =>
    have ⟨hv, _⟩ := hk
    refine ⟨fun _ _ => hk, fun hs ht => ?_, fun hs ht => ?_, .inl hk⟩
    · cases (ht.symm.trans hv).trans hs
    · cases (ht.symm.trans hv).trans hs
  | sets hi h =>
    obtain ⟨hv, hr⟩ := h
    refine ⟨fun hn => absurd hi hn, fun _ _ => ⟨hr, hi⟩, fun _ ht => ?_, .inr hr⟩
    cases hv.symm.trans ht
  | clears hi h =>
    obtain ⟨hv, hr, hstage⟩ := h
    refine ⟨fun _ hn => absurd hi hn, fun _ ht => ?_, fun _ _ => ⟨hr, hstage, hi⟩, .inr hr⟩
    cases hv.symm.trans ht

end Sys2Proof.Machine

/-! The memories (20_memory). The window indices of a configured block reach back by the delay and by part of a symbol before it
(R84): `samplesIn` is monotone, so the part is no longer than the symbol, and CFG accepts only what fits in the window. Then the
sample, the port, and where the stream buffer ends. -/

namespace Sys2Proof

/-! ## Monotone arithmetic: finite numbers without a sign are ordered as their patterns -/

/-- Two finite numbers without a sign, the first at most the second. -/
def F32.NonnegLe (x y : F32) : Prop := ∃ m n : Fin 0x7F800000, x = .finite false m ∧ y = .finite false n ∧ m.val ≤ n.val

theorem F32.NonnegLe.refl_left {x y : F32} (h : F32.NonnegLe x y) : F32.NonnegLe x x := by
  obtain ⟨m, -, rfl, -⟩ := h
  exact ⟨m, m, rfl, rfl, le_rfl⟩

theorem F32.NonnegLe.left_isFinite {x y : F32} (h : F32.NonnegLe x y) : x.isFinite = true := by
  obtain ⟨m, -, rfl, -⟩ := h
  rfl

theorem F32.units_mono : Monotone F32.units := (unitsOf_strictMono 23).monotone

/-- A bound that does not overflow keeps what is below it from overflowing. -/
theorem F32.round_mono {num num' den : Nat} (h : num ≤ num') (hfin : (F32.round false num' den).isFinite = true) :
    F32.NonnegLe (F32.round false num den) (F32.round false num' den) := by
  have hmag : roundMag 23 num den ≤ roundMag 23 num' den := roundMag_mono h
  by_cases hn : roundMag 23 num' den < 0x7F800000
  · exact ⟨⟨_, hmag.trans_lt hn⟩, ⟨_, hn⟩, dif_pos _, dif_pos _, hmag⟩
  · rw [F32.round, F32.ofMag, dif_neg hn] at hfin
    cases hfin

theorem F32.ofNat_mono {k k' : Nat} (h : k ≤ k') (hfin : (F32.ofNat k').isFinite = true) :
    F32.NonnegLe (F32.ofNat k) (F32.ofNat k') :=
  F32.round_mono (Nat.mul_le_mul_right _ h) hfin

theorem fmul_mono {x x' y y' : F32} (hx : F32.NonnegLe x x') (hy : F32.NonnegLe y y')
    (hfin : (fmul x' y').isFinite = true) : F32.NonnegLe (fmul x y) (fmul x' y') := by
  obtain ⟨m, m', rfl, rfl, hm⟩ := hx
  obtain ⟨n, n', rfl, rfl, hn⟩ := hy
  rw [fmul, Bool.xor_self] at hfin ⊢
  exact F32.round_mono (Nat.mul_le_mul (F32.units_mono hm) (F32.units_mono hn)) hfin

theorem fdiv_mono_left {x x' : F32} {d : Fin 0x7F800000} (hx : F32.NonnegLe x x') (hd : d.val ≠ 0)
    (hfin : (fdiv x' (.finite false d)).isFinite = true) :
    F32.NonnegLe (fdiv x (.finite false d)) (fdiv x' (.finite false d)) := by
  obtain ⟨m, m', rfl, rfl, hm⟩ := hx
  simp only [fdiv, if_neg hd, Bool.xor_self] at hfin ⊢
  exact F32.round_mono (Nat.mul_le_mul_right _ (F32.units_mono hm)) hfin

theorem roundNearest_finite (m : Fin 0x7F800000) :
    roundNearest (.finite false m) = (2 * F32.units m.val + 2 ^ 149) / 2 ^ 150 := by
  rw [roundNearest, Bool.false_and, if_neg Bool.false_ne_true]

theorem roundNearest_mono {x y : F32} (h : F32.NonnegLe x y) : roundNearest x ≤ roundNearest y := by
  obtain ⟨m, n, rfl, rfl, hmn⟩ := h
  rw [roundNearest_finite, roundNearest_finite]
  exact Nat.div_le_div_right (Nat.add_le_add_right (Nat.mul_le_mul_left 2 (F32.units_mono hmn)) _)

end Sys2Proof

namespace Sys2Proof.Machine

/-! ## Counts of samples (40_configuration R152, R153) -/

/-- The `sampleTimeUnit` of a rate of 2^32, above that of every `u32` rate. -/
def largestUnit : F32 := fdiv (F32.ofNat (2 ^ 32)) carrierHz

theorem carrierHz_eq : carrierHz = .finite false ⟨0x4B4EE8C0, by decide⟩ := by decide +kernel

theorem timeUnit_le (rate : U32) : F32.NonnegLe (timeUnit rate) largestUnit := by
  have h : F32.NonnegLe (F32.ofNat rate.toNat) (F32.ofNat (2 ^ 32)) :=
    F32.ofNat_mono rate.isLt.le (by decide +kernel)
  rw [timeUnit, largestUnit, carrierHz_eq]
  exact fdiv_mono_left h (by decide) (by decide +kernel)

theorem fmul_timeUnit_isFinite (rate : U32) {c : Nat} (h : c ≤ 65536) : (fmul (timeUnit rate) (F32.ofNat c)).isFinite = true :=
  (fmul_mono (timeUnit_le rate) (F32.ofNat_mono h (by decide +kernel)) (by decide +kernel)).left_isFinite

/-- 45_protocol_classifier R269, for every constant of the block. -/
theorem samplesIn_mono (rate : U32) {c c' : Nat} (h : c ≤ c') (hc : c' ≤ 65536) :
    samplesIn (timeUnit rate) c ≤ samplesIn (timeUnit rate) c' := by
  have hfin : (F32.ofNat c').isFinite = true := (F32.ofNat_mono hc (by decide +kernel)).left_isFinite
  exact roundNearest_mono (fmul_mono (timeUnit_le rate).refl_left (F32.ofNat_mono h hfin) (fmul_timeUnit_isFinite rate hc))

theorem cyclesAt_le (c : Nat) (r : Rate) : cyclesAt c r ≤ c := by
  cases r with
  | k106 => exact le_rfl
  | k212 => exact Nat.shiftRight_le c 1
  | k424 => exact Nat.shiftRight_le c 2

theorem cyclesAt_mono {c c' : Nat} (h : c ≤ c') (r : Rate) : cyclesAt c r ≤ cyclesAt c' r := by
  cases r with
  | k106 => exact h
  | k212 => exact Nat.div_le_div_right h
  | k424 => exact Nat.div_le_div_right (Nat.div_le_div_right h)

/-- A part of a symbol is no longer than the symbol. -/
theorem samplesIn_le_period1At (rate : U32) (r : Rate) {c : Nat} (h : c ≤ 128) :
    samplesIn (timeUnit rate) (cyclesAt c r) ≤ period1At (timeUnit rate) r :=
  samplesIn_mono rate (cyclesAt_mono h r) ((cyclesAt_le 128 r).trans (by decide))

/-! ## `CFG` (40_configuration R152 to R158) -/

theorem execCfg_loads {rate : U32} {s t : State} (h : execCfg rate s = .next t) (hs : s.configError = false)
    (ht : t.configError = false) : configFails (windowLength s) (timeUnit rate) = false ∧
      t = finishConfiguration (resetModulation (loadConfiguration rate s)) := by
  rw [execCfg, if_neg (by simp [hs])] at h
  split at h <;> cases h
  · cases ht
  · exact ⟨eq_false_of_ne_true ‹_›, rfl⟩

theorem delayAt_add_period1At_le (unit : F32) (r : Rate) : delayAt unit r + period1At unit r ≤ maxDelay unit := by
  cases r <;> simp [maxDelay]

/-- The window of an accepted rate is longer than the delay of any rate and a symbol of it (R158). -/
theorem delayAt_add_period1At_lt {n : Nat} {unit : F32} (h : configFails n unit = false) (r : Rate) :
    delayAt unit r + period1At unit r < n := by
  have hmax : maxDelay unit < n := by
    simp only [configFails, Bool.or_eq_false_iff, decide_eq_false_iff_not] at h
    omega
  exact (delayAt_add_period1At_le unit r).trans_lt hmax

theorem paramsOf_configured (rate : U32) (s : State) (r : Rate) :
    paramsOf r (finishConfiguration (resetModulation (loadConfiguration rate s))) =
      tableFor (windowLength s) (timeUnit rate) r (paramsOf r s) := by
  cases r <;> rfl

/-! ## The window indices (10_state R39, 20_memory R84) -/

theorem windowLength_dvd (s : State) : windowLength s ∣ 2 ^ 64 := Nat.pow_dvd_pow 2 (s.windowBits.isLt.le.trans (by decide))

theorem windowLength_lt (s : State) : windowLength s < 2 ^ 32 := Nat.pow_lt_pow_right (by decide) s.windowBits.isLt

theorem toTime_ofNat {k : Nat} (h : k < 2 ^ 32) : toTime (BitVec.ofNat 32 k) = BitVec.ofNat 64 k :=
  BitVec.setWidth_ofNat_of_le_of_lt (by decide) h

theorem windowCell_add_length (s : State) (i : Time) :
    windowCell s (i + BitVec.ofNat 64 (windowLength s)) = windowCell s i := by
  simp only [windowCell, BitVec.toNat_add, BitVec.toNat_ofNat, Nat.add_mod_mod, Nat.mod_mod_of_dvd _ (windowLength_dvd s),
    Nat.add_mod_right]

/-- `N - k` ahead and `k` back name one cell. -/
theorem windowCell_offset (s : State) (c : Time) {k : Nat} (h : k ≤ windowLength s) :
    windowCell s (toTime (BitVec.ofNat 32 (windowLength s - k)) + c) = windowCell s (c - BitVec.ofNat 64 k) := by
  have hlt := windowLength_lt s
  have hsplit : BitVec.ofNat 64 (windowLength s) = BitVec.ofNat 64 (windowLength s - k) + BitVec.ofNat 64 k := by
    rw [← BitVec.ofNat_add, Nat.sub_add_cancel h]
  rw [toTime_ofNat (by omega), ← windowCell_add_length s (c - BitVec.ofNat 64 k), hsplit]
  congr 1
  ring

/-- The delay and a part of the symbol before it are subtracted one after the other (R84). -/
theorem windowCell_offset_sub (s : State) (c : Time) {d p : Nat} (h : d + p ≤ windowLength s) :
    windowCell s (toTime (BitVec.ofNat 32 (windowLength s - d - p)) + c) =
      windowCell s (c - toTime (BitVec.ofNat 32 d) - toTime (BitVec.ofNat 32 p)) := by
  have hlt := windowLength_lt s
  rw [Nat.sub_sub, windowCell_offset s c h, toTime_ofNat (by omega), toTime_ofNat (by omega), BitVec.ofNat_add,
    sub_add_eq_sub_sub]

/-- Settles O24: the delay and a symbol of an accepted rate fit in the window, so no index of the table is cut off at 0. -/
theorem windowIndicesReachBackByTheDelay : Obligations.WindowIndicesReachBackByTheDelay := by
  intro s t rate h hs ht r c
  obtain ⟨hok, rfl⟩ := execCfg_loads h hs ht
  have hfit := delayAt_add_period1At_lt hok r
  have h4 := samplesIn_le_period1At rate r (c := 32) (by decide)
  have h8 := samplesIn_le_period1At rate r (c := 16) (by decide)
  have hlt := windowLength_lt s
  rw [paramsOf_configured]
  refine ⟨?_, windowCell_offset_sub s c (by omega), windowCell_offset_sub s c (by omega)⟩
  exact (windowCell_offset s c (by omega)).trans (by rw [← toTime_ofNat (by omega)]; rfl)

/-! ## The sample -/

/-- Settles O9: `INGEST` writes one cell of the window. -/
theorem ingestStoresTheSampleOfTheNewClock : Obligations.IngestStoresTheSampleOfTheNewClock := by
  intro s a b hwf
  exact ⟨ingest a b s, rfl, rfl, Memory.wf_write _ _ hwf,
    fun cell => Memory.read_write hwf (windowCell s (s.signalClock + 1)) cell a⟩

/-! ## The port (R86, R95) -/

theorem step_of_port_nil {s : State} (h : s.port = []) : step s = .next s := by
  rw [step, takeCommand, h]

theorem step_of_port_cons {s : State} {c : PortCommand} {rest : List PortCommand} (h : s.port = c :: rest) :
    step s = exec (decode (.cmd c.word)) { s with port := rest, powerLevelThreshold := c.pin } := by
  rw [step, takeCommand, h]
  rfl

/-- Settles O7: `takeCommand` on an empty port and on one with a head. -/
theorem stepRunsTheCommandOnThePort : Obligations.StepRunsTheCommandOnThePort :=
  ⟨fun _ => step_of_port_nil, fun _ _ _ _ hport hdecode => hdecode ▸ step_of_port_cons hport⟩

/-! ## The end of the stream buffer (R80, R90) -/

theorem pushByte_of_full {s : State} (h : bufferCells ≤ s.stream.bytes.toNat) : pushByte s = .fault .noBufferCell := by
  rw [pushByte, bufPush, if_neg (by omega)]
  rfl

theorem finalise_of_gt (trunc : Bool) {s : State} (h : bufferCells < s.stream.bytes.toNat) :
    finalise trunc s = .fault .noBufferCell := by
  rw [finalise, if_neg (by omega)]

theorem terminate_of_gt (trunc : Bool) {s : State} (h : bufferCells < s.stream.bytes.toNat) :
    terminate trunc s = .fault .noBufferCell := by
  have hne : s.stream.bytes ≠ 0 := fun h0 => by rw [h0] at h; cases h
  rw [terminate, if_neg hne, finalise_of_gt trunc h]
  rfl

/-- An operation that stops where `p` holds and goes on elsewhere faults exactly where `p` holds. -/
theorem eq_fault_iff {r : Result} {e : Fault} {t : State} {p : Prop} (hstop : p → r = .fault e) (hgo : ¬ p → r = .next t) :
    r = .fault e ↔ p :=
  ⟨fun h => by_contra fun hp => (nomatch h.symm.trans (hgo hp)), hstop⟩

/-- Settles O42: past the cells each operation stops, and before them it answers its next state. -/
theorem bufferFaultsOnlyPastItsCells : Obligations.BufferFaultsOnlyPastItsCells := fun _ trunc =>
  ⟨eq_fault_iff pushByte_of_full fun h => pushByte_of_lt (Nat.lt_of_not_le h),
    eq_fault_iff (finalise_of_gt trunc) fun h => finalise_of_le (Nat.le_of_not_lt h),
    eq_fault_iff (terminate_of_gt trunc) fun h => terminate_of_le (Nat.le_of_not_lt h)⟩

end Sys2Proof.Machine

/-! The words (30_encoding): the table of B1 and the key tables, evaluated; decode and encode undo each other; what a presented
word runs; the words without effect; and the fields of a published frame. -/

namespace Sys2Proof

/-! ## Words and keys, evaluated -/

/-- Settles O4: by evaluation of the twelve words. -/
theorem specWordsDecodeToTheirOperations : Obligations.SpecWordsDecodeToTheirOperations := by
  unfold Obligations.SpecWordsDecodeToTheirOperations
  decide

/-- Settles O5: by evaluation of both tables at the 32 keys. -/
theorem everyKeySelectsExactlyOneRow : Obligations.EveryKeySelectsExactlyOneRow := by
  unfold Obligations.EveryKeySelectsExactlyOneRow
  decide

/-! ## Decode and encode (R110 to R117) -/

/-- An operation's word gives it back: of a command word the laws of `cmdWord` read the fields; a key is one number. -/
theorem decode_of_encode {i : Instr} {c : Code} (h : encode i = some c) : decode c = i := by
  cases i <;> cases h
  case nop | rst | thr | cfg | smp | rsv5 | rsv6 | rsv7 => simp [decode, decodeCmd]
  all_goals rfl

/-- The operations of format CALL (R117). -/
theorem encode_eq_none_iff (i : Instr) : encode i = none ↔
    ((∃ a b, i = .ingest a b) ∨ (∃ r, i = .edge r) ∨ i = .sofabt ∨ i = .sofconf ∨ (∃ b, i = .fterm b) ∨
      (∃ b, i = .fin b) ∨ (∃ f, i = .cls f) ∨ (∃ f, i = .crc f) ∨ i = .rstm ∨ i = .lstn) := by
  cases i <;> simp [encode]

theorem exists_encode_decode (c : Code) : ∃ c', encode (decode c) = some c' := by
  cases c with
  | cmd w =>
    show ∃ c', encode (decodeCmd w) = some c'
    unfold decodeCmd
    split <;> exact ⟨_, rfl⟩
  | seq k =>
    show ∃ c', encode (decodeSeq k).toInstr = some c'
    cases decodeSeq k <;> exact ⟨_, rfl⟩
  | sym k =>
    show ∃ c', encode (decodeSym k).toInstr = some c'
    cases decodeSym k <;> exact ⟨_, rfl⟩

/-- Settles O6: an operation's word decodes to it, and every word decodes to an operation that has one. -/
theorem decodeAndEncodeAgree : Obligations.DecodeAndEncodeAgree := by
  refine ⟨fun _ _ _ => decode_of_encode, fun c => ?_, encode_eq_none_iff⟩
  obtain ⟨c', hc'⟩ := exists_encode_decode c
  exact ⟨c', hc', decode_of_encode hc'⟩

end Sys2Proof

namespace Sys2Proof.Machine

/-! ## Presented words, and words without effect -/

theorem tableCode_of_command {nbits w : Nat} (h : 8 < nbits ∨ w < 8 ∨ 32 ≤ w) (hw : w < 2 ^ 67) :
    tableCode nbits w = some (.cmd (BitVec.ofNat 67 w)) := by
  rw [tableCode, if_pos h, if_pos hw]

/-- Settles O8: the number is a command word, which `withFetchWord` puts at the head of the port. -/
theorem presentedCommandRunsNext : Obligations.PresentedCommandRunsNext := by
  intro s nbits w h hw
  have hcode := tableCode_of_command h hw
  refine ⟨by rw [decodeTableWord, hcode]; rfl, ?_⟩
  rw [State.withFetchWord, hcode]
  exact step_of_port_cons (s := presentCommand (BitVec.ofNat 67 w) s) rfl

/-- The command codes without effect: `NOP`'s and the three reserved ones (R114). -/
theorem decodeCmd_of_ignored_op {w : BitVec 67} (h : cmdOp w = 0b000 ∨ cmdOp w = 0b101 ∨ cmdOp w = 0b110 ∨ cmdOp w = 0b111) :
    decodeCmd w ∈ [.nop, .rsv5, .rsv6, .rsv7] := by
  rcases h with h | h | h | h <;> simp [decodeCmd, h]

theorem exec_of_ignored {i : Instr} (h : i ∈ [.nop, .rsv5, .rsv6, .rsv7]) (s : State) : exec i s = .next s := by
  simp only [List.mem_cons, List.not_mem_nil, or_false] at h
  rcases h with rfl | rfl | rfl | rfl <;> rfl

/-- Settles O17: a word with one of the four codes decodes to one of the four operations. -/
theorem nopAndReservedCodesChangeNothing : Obligations.NopAndReservedCodesChangeNothing := fun s =>
  ⟨rfl, rfl, rfl, rfl, fun _ hop => exec_of_ignored (decodeCmd_of_ignored_op hop) s⟩

/-! ## Published frames (R125, R126) -/

/-- What a tracking `SMP` hands to the framer: of the registers a frame is made of, only the symbol is new. -/
theorem tracked_registers (a b : U32) (s : State) :
    (track (edged a b s)).stream = s.stream ∧ (track (edged a b s)).frame = s.frame ∧
    (track (edged a b s)).sampleRate = s.sampleRate ∧ (track (edged a b s)).chainedFlags = s.chainedFlags ∧
    (track (edged a b s)).protocol = s.protocol ∧ (track (edged a b s)).frameValid = false := by
  obtain ⟨m, sym, x, heq, -⟩ := track_shape (edged a b s)
  rw [heq]
  exact ⟨rfl, rfl, rfl, rfl, rfl, rfl⟩

/-- The framer publishes a frame only by a terminator over a non-empty buffer. -/
theorem Framed.publishes {op : SymOp} {s t : State} (h : Framed op s t) (hs : s.frameValid = false) (ht : t.frameValid = true) :
    ∃ trunc, t = resetModulation (finalised trunc s) ∧ s.stream.bytes ≠ 0 ∧
      (trunc = false ↔ op = .feof) ∧ op ≠ .fpush := by
  cases h with
  | ends trunc _ hend hop hn =>
    subst hend
    unfold terminated at ht ⊢
    split at ht
    · cases hs.symm.trans ht
    · rename_i hne
      exact ⟨trunc, if_neg hne ▸ rfl, hne, hop, hn.2.2⟩
  | starts _ h => subst h; cases hs.symm.trans ht
  | data _ h => subst h; cases hs.symm.trans ht
  | pushes _ _ h => subst h; cases hs.symm.trans ht

/-- An `SMP` publishes a frame only where it tracks a symbol and the framer's terminator publishes it. -/
theorem execSmp_publishes {a b : U32} {s t : State} (h : execSmp a b s = .next t) (ht : t.frameValid = true) :
    running s = true ∧ ∃ u, t = returning .nothing u ∧ u.frameValid = true ∧
      Framed (decodeSym (symKey (track (edged a b s)))) (track (edged a b s)) u := by
  obtain ⟨-, -, -, -, -, htracked⟩ := tracked_registers a b s
  cases execSmp_cases h with
  | idle => cases ht
  | listen => cases ht
  | search _ _ _ hu => obtain ⟨m, x, rfl, -⟩ := hu; cases ht
  | confirm _ _ _ _ hu => obtain ⟨m, fs, x, rfl, -⟩ := hu; cases ht
  | noSymbol => cases htracked.symm.trans ht
  | symbol hrun _ _ hu => exact ⟨hrun, _, rfl, ht, hu⟩

theorem decodeSym_feof : ∀ p z n e f : Bool, decodeSym (packKey p z n e f) = .feof → n = true ∧ e = true := by decide

/-- At the stop position of a buffer with room, over a zero accumulator, L ends the frame and H is a stop bit. -/
theorem decodeSym_stop : ∀ p : Bool, decodeSym (packKey p false true true false) ≠ .fpush →
    decodeSym (packKey p false true true false) = .feof := by decide

theorem bufferFull_at_stop {s : State} (h : framerOk s.stream) (hmax : s.protocol.maxFrameSize = 256)
    (hstop : s.stream.bits = 9) : bufferFull s = false := by
  obtain ⟨-, -, -, hfull⟩ := h
  refine beq_false_of_ne fun hbytes => ?_
  rw [hmax] at hbytes
  exact absurd ((hfull (congrArg BitVec.toNat hbytes)).symm.trans hstop) (by decide)

/-- The end of a frame in the registers, wherever the symbol is no stop bit. -/
theorem feof_iff {s : State} (h : framerOk s.stream) (hmax : s.protocol.maxFrameSize = 256)
    (hpush : decodeSym (symKey s) ≠ .fpush) : decodeSym (symKey s) = .feof ↔ s.stream.bits = 9 ∧ s.stream.data = 0 := by
  constructor
  · intro hop
    obtain ⟨hn, he⟩ := decodeSym_feof _ _ _ _ _ hop
    exact ⟨eq_of_beq hn, eq_of_beq he⟩
  · rintro ⟨hbits, hdata⟩
    have hkey : symKey s = packKey (s.symbol.pattern == .patternH) false true true false := by
      rw [symKey, bufferFull_at_stop h hmax hbits, hbits, hdata]; rfl
    rw [hkey] at hpush ⊢
    exact decodeSym_stop _ hpush

theorem isReqb_iff (f : FrameRecord) : isReqb f = true ↔ f.payload.head? = some 0x05 ∧ f.payload.length = 5 := by
  simp [isReqb]

/-- The flags byte of a classified frame: `Truncated` as the terminator says, `CrcError` as the check says, no other. -/
theorem flags_classifiedRecord (trunc : Bool) (s : State) : (classifiedRecord (builtRecord trunc s) 0).flags =
    (if trunc then flagTruncated else 0) ||| (if crcCheck (payload s) then 0 else flagCrcError) := by
  refine BitVec.or_zero.trans (?_ : (if crcCheck (payload s) then _ else _) = _)
  split
  · exact BitVec.or_zero.symm
  · rfl

theorem flags_bits : ∀ trunc crc : Bool,
    let flags := (if trunc then flagTruncated else 0) ||| (if crc then 0 else flagCrcError)
    flags &&& 0xD7 = 0 ∧ (flags &&& 0x20 = 0x20 ↔ crc = false) ∧ (flags &&& 0x08 = 0 ↔ trunc = false) := by
  decide

/-- With no flags chained, `FIN` leaves the record it built with its class and its CRC, and the end it recorded. -/
theorem finalised_record {s : State} (h : s.chainedFlags = 0) (trunc : Bool) :
    (finalised trunc s).frameOut = classifiedRecord (builtRecord trunc s) 0 ∧
      (finalised trunc s).frame.lastFrameEnd = s.symbol.endAt := by
  obtain ⟨fr, ps, c, heq, -, hc, hend⟩ := finalised_shape trunc s
  obtain rfl : c = 0 := hc.elim (·.trans h) id
  rw [heq]
  exact ⟨rfl, hend⟩

/-- From a state with the invariant the published frame is the record built after `TRK`, `Truncated` unless the symbol ended it. -/
theorem execSmp_published_record {a b : U32} {s t : State} (hs : Inv s) (h : execSmp a b s = .next t)
    (ht : t.frameValid = true) :
    s.stream.bytes ≠ 0 ∧ ∃ trunc, t.frameOut = classifiedRecord (builtRecord trunc (track (edged a b s))) 0 ∧
      t.frame.lastFrameEnd = (track (edged a b s)).symbol.endAt ∧ (trunc = false ↔ s.stream.bits = 9 ∧ s.stream.data = 0) := by
  obtain ⟨-, -, hframer, hconfig, -, -, hchained, -⟩ := hs
  obtain ⟨hrun, u, rfl, hu, hframed⟩ := execSmp_publishes h ht
  obtain ⟨hmax, -⟩ := hconfig (Bool.and_eq_true_iff.1 hrun).1
  obtain ⟨hstream, -, -, hflags, hprotocol, hclear⟩ := tracked_registers a b s
  obtain ⟨trunc, rfl, hne, hop, hpush⟩ := hframed.publishes hclear hu
  obtain ⟨hrecord, hlast⟩ := finalised_record (hflags.trans hchained) trunc
  have hend := feof_iff (hstream ▸ hframer) (hprotocol ▸ hmax) hpush
  rw [hstream] at hne hend
  exact ⟨hne, trunc, hrecord, hlast, hop.trans hend⟩

/-- Settles O60: the frame is the record `FIN` built from the registers `TRK` kept, and the invariant says where `FEOF`'s key
arises: at the stop position, where the buffer is not full, over a zero accumulator. -/
theorem publishedFramesAreWellFormed : Obligations.PublishedFramesAreWellFormed := by
  intro s t a b hs h hvalid
  obtain ⟨hne, trunc, hrecord, hlast, hend⟩ := execSmp_published_record hs h hvalid
  obtain ⟨-, -, ⟨-, hbytes, -, hfull⟩, -⟩ := hs
  obtain ⟨hstream, hframe, hrate, -⟩ := tracked_registers a b s
  rw [hrecord, hlast, ← hframe, ← hrate]
  rw [← hstream] at hne hend hbytes hfull ⊢
  generalize track (edged a b s) = v at *
  obtain ⟨hunused, hcrc, htrunc⟩ := flags_bits trunc (crcCheck (payload v))
  rw [← flags_classifiedRecord] at hunused hcrc htrunc
  have hlength : (classifiedRecord (builtRecord trunc v) 0).payload.length = v.stream.bytes.toNat := payload_length v
  have hpos : 0 < v.stream.bytes.toNat := Nat.pos_of_ne_zero fun h0 => hne (BitVec.eq_of_toNat_eq h0)
  refine ⟨rfl, rfl, if_congr (isReqb_iff _) rfl rfl, rfl, hlength ▸ hpos, hlength ▸ hbytes, rfl, rfl, rfl, rfl, rfl, hunused,
    hcrc, htrunc.trans hend, fun hclear => ?_⟩
  have hne256 : v.stream.bytes.toNat ≠ 256 := fun h256 =>
    absurd ((hfull h256).symm.trans (hend.1 (htrunc.1 hclear)).1) (by decide)
  omega

end Sys2Proof.Machine

/-! The configuration (40_configuration): `THR` and `RST`; the table of `CFG` in the spec's own numbers; and, since a count of samples
grows with the sample rate, which rates `CFG` accepts and how long their parts of a symbol are. -/

namespace Sys2Proof.Machine

/-! ## `THR` and `RST` (R150, R151) -/

theorem execThr_of_configError {s : State} (h : s.configError = true) (min max : U32) : execThr min max s = .next s :=
  if_pos h

theorem execThr_of_noError {s : State} (h : s.configError = false) (min max : U32) : execThr min max s =
    .next { s with minimumModulationThreshold := F32.ofBits min, maximumModulationThreshold := F32.ofBits max } :=
  if_neg (by simp [h])

/-- Settles O18: the two branches of `THR`. -/
theorem thrStoresBothThresholds : Obligations.ThrStoresBothThresholds := fun _ min max =>
  ⟨fun herror => execThr_of_configError herror min max, fun hok => execThr_of_noError hok min max⟩

theorem winRead_of_empty {s : State} (h : s.signalData = []) (i : Time) : winRead s i = F32.ofBits 0 := by
  rw [winRead, h]
  rfl

/-- Settles O2: `RST` leaves `State.reset` but for the pin, `N` and the port, and an empty window reads 0 whatever `N` is. -/
theorem rstRestoresEveryResetValue : Obligations.RstRestoresEveryResetValue := by
  obtain ⟨hclock, -, hregisters⟩ := resetHasTheSpecsValues
  exact fun s => ⟨_, rfl, ⟨hclock, winRead_of_empty rfl, hregisters⟩, rfl, rfl, rfl⟩

/-! ## `CFG`: the test and the tables (R152 to R158) -/

theorem samples_eq (rate : U32) (c : Nat) : Claims.samples rate c = samplesIn (timeUnit rate) c := rfl

theorem configFails_iff (n : Nat) (rate : U32) : configFails n (timeUnit rate) = true ↔ Claims.RateRejected n rate := by
  simp only [configFails, Bool.or_eq_true, decide_eq_true_eq, or_assoc, maxDelay, le_max_iff, delayAt, Nat.zero_add]
  rfl

theorem execCfg_rejected {s : State} {rate : U32} (hok : s.configError = false)
    (h : Claims.RateRejected (windowLength s) rate) : execCfg rate s = .next (raiseConfigError s) := by
  rw [execCfg, if_neg (by simp [hok]), if_pos ((configFails_iff _ rate).2 h)]

theorem execCfg_accepted {s : State} {rate : U32} (hok : s.configError = false)
    (h : ¬ Claims.RateRejected (windowLength s) rate) :
    execCfg rate s = .next (finishConfiguration (resetModulation (loadConfiguration rate s))) := by
  rw [execCfg, if_neg (by simp [hok]), if_neg fun hfails => h ((configFails_iff _ rate).1 hfails)]

/-- Settles O19: `CFG` takes the branch that raises `ConfigError`. -/
theorem cfgRejectsAnImpossibleRate : Obligations.CfgRejectsAnImpossibleRate := fun _ _ => execCfg_rejected

/-- A rate's table in the spec's numbers: a half, a quarter and an eighth of `128 >> r` are `64`, `32` and `16 >> r`. -/
theorem tableFor_eq_tableRow (n : Nat) (rate : U32) (r : Rate) (old : BitrateParams) : tableFor n (timeUnit rate) r old =
    Claims.tableRow n rate (cyclesAt 128 r) (delayAt (timeUnit rate) r) old := by
  cases r <;> rfl

/-- The integrators are cleared by `CFG`, the other detector registers by the `RSTM` it runs. -/
theorem modOf_configured (rate : U32) (s : State) (r : Rate) :
    modOf r (finishConfiguration (resetModulation (loadConfiguration rate s))) =
      { Claims.clearedTimes (modOf r s) with
        filterIntegrate := F32.ofBits 0, detectIntegrate := F32.ofBits 0, phaseIntegrate := F32.ofBits 0 } := by
  cases r <;> rfl

theorem params_configured (rate : U32) (s : State) :
    (finishConfiguration (resetModulation (loadConfiguration rate s))).params =
      ⟨Claims.tableRow (windowLength s) rate 128 0 s.params.k106,
       Claims.tableRow (windowLength s) rate 64 (Claims.samples rate 128) s.params.k212,
       Claims.tableRow (windowLength s) rate 32 (Claims.samples rate 128 + Claims.samples rate 64) s.params.k424⟩ := by
  show PerRate.mk (tableFor ..) (tableFor ..) (tableFor ..) = _
  simp only [tableFor_eq_tableRow]
  rfl

/-- Settles O20: `CFG` takes its last branch, whose state has the tables of `params_configured` and the detector registers of
`modOf_configured`; every other register is as the branch writes or leaves it. -/
theorem cfgLoadsTheTablesAndClearsTheRest : Obligations.CfgLoadsTheTablesAndClearsTheRest := fun s rate hok haccepted =>
  ⟨_, execCfg_accepted hok haccepted, params_configured rate s, rfl, rfl, modOf_configured rate s, rfl⟩

/-! ## Counts of samples grow with the sample rate -/

theorem timeUnit_mono {rate rate' : U32} (h : rate.toNat ≤ rate'.toNat) : F32.NonnegLe (timeUnit rate) (timeUnit rate') := by
  have hrate' : (F32.ofNat rate'.toNat).isFinite = true := (F32.ofNat_mono rate'.isLt.le (by decide +kernel)).left_isFinite
  have hunit' := (timeUnit_le rate').left_isFinite
  rw [timeUnit, carrierHz_eq] at hunit'
  rw [timeUnit, timeUnit, carrierHz_eq]
  exact fdiv_mono_left (F32.ofNat_mono h hrate') (by decide) hunit'

theorem samplesIn_mono_rate {rate rate' : U32} (h : rate.toNat ≤ rate'.toNat) {c : Nat} (hc : c ≤ 65536) :
    samplesIn (timeUnit rate) c ≤ samplesIn (timeUnit rate') c :=
  have hcycles : F32.NonnegLe (F32.ofNat c) (F32.ofNat c) := (F32.ofNat_mono hc (by decide +kernel)).refl_left
  roundNearest_mono (fmul_mono (timeUnit_mono h) hcycles (fmul_timeUnit_isFinite rate' hc))

/-! ## The lowest rate that `CFG` accepts (R158) -/

/-- The lowest sample rate with eight samples in a symbol of every rate. -/
def lowestRate : U32 := 3178125

/-- At the lowest rate the shortest symbol has 8 samples, a quarter of it 2 and an eighth 1; one Hz lower the symbol has only 7. -/
theorem samplesIn_lowestRate : samplesIn (timeUnit lowestRate) 32 = 8 ∧ samplesIn (timeUnit lowestRate) 8 = 2 ∧
    samplesIn (timeUnit lowestRate) 4 = 1 ∧ samplesIn (timeUnit (lowestRate - 1)) 32 = 7 := by
  decide +kernel

/-- The shortest symbol, that of rate 2, decides. -/
theorem samplesIn_shortest_lt_iff (rate : U32) : samplesIn (timeUnit rate) 32 < 8 ↔ rate.toNat < lowestRate.toNat := by
  obtain ⟨hat, -, -, hbelow⟩ := samplesIn_lowestRate
  constructor
  · intro hshort
    by_contra hrate
    have := samplesIn_mono_rate (Nat.le_of_not_lt hrate) (c := 32) (by decide)
    omega
  · intro hrate
    have hrate' : rate.toNat ≤ (lowestRate - 1).toNat := Nat.le_sub_one_of_lt hrate
    have := samplesIn_mono_rate hrate' (c := 32) (by decide)
    omega

/-- Settles O22: the symbols of the other rates are no shorter than that of rate 2, whose length `samplesIn_shortest_lt_iff` gives. -/
theorem lowestAcceptedSampleRate : Obligations.LowestAcceptedSampleRate := by
  intro rate
  have h64 := samplesIn_mono rate (c := 32) (c' := 64) (by decide) (by decide)
  have h128 := samplesIn_mono rate (c := 64) (c' := 128) (by decide) (by decide)
  refine Iff.trans ?_ (samplesIn_shortest_lt_iff rate)
  simp only [samples_eq]
  omega

/-! ## The divisors of `EDGE` (41_edge_depth R171) -/

theorem lowestRate_le_of_accepted {n : Nat} {rate : U32} (h : configFails n (timeUnit rate) = false) :
    lowestRate.toNat ≤ rate.toNat := by
  refine Nat.le_of_not_lt fun hlow => ?_
  have hrejected : Claims.RateRejected n rate := .inr (.inr (.inl ((samplesIn_shortest_lt_iff rate).2 hlow)))
  exact Bool.false_ne_true (h.symm.trans ((configFails_iff n rate).2 hrejected))

theorem div_four_le_cyclesAt (c : Nat) (r : Rate) : c / 4 ≤ cyclesAt c r := by
  cases r with
  | k106 => exact Nat.div_le_self c 4
  | k212 => exact Nat.div_le_div_left (by decide) (by decide)
  | k424 => exact (Nat.shiftRight_eq_div_pow c 2).ge

/-- A part of a symbol of any rate is no shorter than that part of the shortest symbol, at the lowest rate. -/
theorem lowestRate_samplesIn_le {n : Nat} {rate : U32} (h : configFails n (timeUnit rate) = false) (r : Rate) {c : Nat}
    (hc : c ≤ 128) : samplesIn (timeUnit lowestRate) (c / 4) ≤ samplesIn (timeUnit rate) (cyclesAt c r) := by
  have hlong := cyclesAt_le c r
  calc samplesIn (timeUnit lowestRate) (c / 4)
    _ ≤ samplesIn (timeUnit rate) (c / 4) := samplesIn_mono_rate (lowestRate_le_of_accepted h) (by omega)
    _ ≤ samplesIn (timeUnit rate) (cyclesAt c r) := samplesIn_mono rate (div_four_le_cyclesAt c r) (by omega)

/-- A count of samples within a symbol of an accepted rate fits its register: the symbol fits in the window. -/
theorem toNat_samplesIn {s : State} {rate : U32} (h : configFails (windowLength s) (timeUnit rate) = false) (r : Rate) {c : Nat}
    (hc : c ≤ 128) : (BitVec.ofNat 32 (samplesIn (timeUnit rate) (cyclesAt c r))).toNat =
      samplesIn (timeUnit rate) (cyclesAt c r) := by
  have hsymbol := samplesIn_le_period1At rate r hc
  have hwindow := delayAt_add_period1At_lt h r
  have hregister := windowLength_lt s
  rw [BitVec.toNat_ofNat]
  exact Nat.mod_eq_of_lt (by omega)

/-- Settles O23: `period4` and `period8` are the counts of `toNat_samplesIn`, and those are at least 2 and 1, their values for the
shortest symbol at the lowest rate. -/
theorem configuredDivisorsAreNotZero : Obligations.ConfiguredDivisorsAreNotZero := by
  intro s t rate h hs ht r
  obtain ⟨hok, rfl⟩ := execCfg_loads h hs ht
  obtain ⟨-, hlowest4, hlowest8, -⟩ := samplesIn_lowestRate
  have h4 : 2 ≤ samplesIn (timeUnit rate) (cyclesAt 32 r) := hlowest4 ▸ lowestRate_samplesIn_le hok r (c := 32) (by decide)
  have h8 : 1 ≤ samplesIn (timeUnit rate) (cyclesAt 16 r) := hlowest8 ▸ lowestRate_samplesIn_le hok r (c := 16) (by decide)
  rw [paramsOf_configured]
  exact ⟨h4.trans_eq (toNat_samplesIn hok r (by decide)).symm, h8.trans_eq (toNat_samplesIn hok r (by decide)).symm⟩

end Sys2Proof.Machine

/-! The edge and the depth (41_edge_depth): what `EDGE` leaves and returns; the depth at power 0, where the exact difference is
divided by zero; and poison, which every operation of NUM between a sample and the edge hands on. -/

namespace Sys2Proof

/-! ## Differences from zero are exact -/

/-- A number of NUM is its own rounding: nothing is nearer to it than its own pattern. -/
theorem roundMag_units (mag : Nat) : roundMag 23 (F32.units mag) 1 = mag := by
  have hnearest := (nearestEven_roundMag (frac := 23) (num := F32.units mag) (by decide) Nat.one_pos mag).1
  have hself : Claims.distance 23 (F32.units mag) 1 mag = 0 := by
    rw [Claims.distance, Nat.mul_one]
    exact Int.natAbs_eq_zero.2 (Int.sub_self _)
  have hsame : Claims.unitsOf 23 (roundMag 23 (F32.units mag) 1) = Claims.unitsOf 23 mag := by
    have hunits : F32.units mag = Claims.unitsOf 23 mag := rfl
    rw [hself, Claims.distance] at hnearest
    omega
  exact (unitsOf_strictMono 23).injective hsame

theorem F32.ofBits_zero : F32.ofBits 0 = .finite false ⟨0, by decide⟩ := rfl

theorem exact_not (neg : Bool) (m : Fin 0x7F800000) : Claims.exact (!neg) m = -Claims.exact neg m := F32.signed_not neg _

theorem exact_ne_zero (neg : Bool) {m : Fin 0x7F800000} (hm : m.val ≠ 0) : Claims.exact neg m ≠ 0 := by
  have hunits := F32.units_pos hm
  rw [← natAbs_exact neg m] at hunits
  exact Int.natAbs_pos.1 hunits

theorem exact_neg_iff (neg : Bool) {m : Fin 0x7F800000} (hm : m.val ≠ 0) : Claims.exact neg m < 0 ↔ neg = true := by
  have hunits := F32.units_pos hm
  cases neg <;> simp [exact_eq_signed, F32.signed, hunits]

theorem fsub_zero_left (neg : Bool) {m : Fin 0x7F800000} (hm : m.val ≠ 0) :
    fsub (F32.ofBits 0) (.finite neg m) = .finite (!neg) m := by
  have hdiff : Claims.exact false ⟨0, by decide⟩ - Claims.exact neg m = Claims.exact (!neg) m :=
    (Int.zero_sub _).trans (exact_not neg m).symm
  calc fsub (F32.ofBits 0) (.finite neg m)
    _ = F32.round (!neg) (F32.units m.val) 1 := by
      simp only [F32.ofBits_zero, fsub_finite, hdiff, natAbs_exact, if_neg (exact_ne_zero _ hm), exact_neg_iff _ hm,
        Bool.decide_eq_true]
    _ = .finite (!neg) m := by rw [F32.round, roundMag_units, F32.ofMag, dif_pos m.isLt]

theorem fdiv_zero_right (neg : Bool) {m : Fin 0x7F800000} (hm : m.val ≠ 0) :
    fdiv (.finite neg m) (F32.ofBits 0) = .inf neg := by
  rw [F32.ofBits_zero, fdiv, if_pos rfl, if_neg hm, Bool.xor_false]

/-- Minus infinity exceeds nothing. -/
theorem F32.gt_negInf_left (x : F32) : F32.gt (.inf true) x = false := by
  cases x with
  | finite neg m => cases neg <;> simp [F32.gt, F32.order, F32.signed]
  | inf neg => cases neg <;> rfl
  | nan => rfl

/-! ## Poison -/

/-- A NaN, or the infinity of one sign. -/
def F32.PoisonedAs (neg : Bool) (x : F32) : Prop := x.isNaN = true ∨ x = .inf neg

theorem F32.exists_poisonedAs {x : F32} (h : x.isFinite = false) : ∃ neg, F32.PoisonedAs neg x := by
  cases x with
  | finite => cases h
  | inf neg => exact ⟨neg, .inr rfl⟩
  | nan => exact ⟨true, .inl rfl⟩

section
variable {neg : Bool} {x y : F32}

/-- An infinity survives unless it meets its opposite, and then a NaN results. -/
theorem F32.poisonedAs_ite {c : Prop} [Decidable c] {z : F32} (hz : z.isNaN = true) (hc : c → x = .inf neg) :
    F32.PoisonedAs neg (if c then x else z) := by
  split
  · exact .inr (hc ‹_›)
  · exact .inl hz

theorem fadd_poisonedAs_left (hx : F32.PoisonedAs neg x) (y : F32) : F32.PoisonedAs neg (fadd x y) := by
  rcases hx with hx | rfl
  · exact .inl (fadd_nan_left y hx)
  · cases y with
    | finite => exact .inr rfl
    | inf => exact F32.poisonedAs_ite rfl fun _ => rfl
    | nan => exact .inl rfl

theorem fadd_poisonedAs_right (x : F32) (hy : F32.PoisonedAs neg y) : F32.PoisonedAs neg (fadd x y) := by
  rcases hy with hy | rfl
  · exact .inl (fadd_nan_right x hy)
  · cases x with
    | finite => exact .inr rfl
    | inf => exact F32.poisonedAs_ite rfl fun h => h ▸ rfl
    | nan => exact .inl rfl

theorem fsub_poisonedAs_left (hx : F32.PoisonedAs neg x) (y : F32) : F32.PoisonedAs neg (fsub x y) := by
  rcases hx with hx | rfl
  · exact .inl (fsub_nan_left y hx)
  · cases y with
    | finite => exact .inr rfl
    | inf => exact F32.poisonedAs_ite rfl fun _ => rfl
    | nan => exact .inl rfl

/-- The divisor `F(k)` has no sign, so the quotient keeps that of the dividend. -/
theorem fdiv_ofNat_poisonedAs (hx : F32.PoisonedAs neg x) (k : Nat) : F32.PoisonedAs neg (fdiv x (F32.ofNat k)) := by
  rcases hx with hx | rfl
  · exact .inl (fdiv_nan_left _ hx)
  · unfold F32.ofNat F32.round F32.ofMag
    split
    · exact .inr (congrArg F32.inf (Bool.xor_false neg))
    · exact .inl rfl

theorem fsub_isNaN_of_poisonedAs (hx : F32.PoisonedAs neg x) (hy : F32.PoisonedAs neg y) : (fsub x y).isNaN = true := by
  rcases hx with hx | rfl
  · exact fsub_nan_left y hx
  rcases hy with hy | rfl
  · exact fsub_nan_right _ hy
  · cases neg <;> rfl

end

end Sys2Proof

namespace Sys2Proof.Machine

/-! ## What `EDGE` leaves and returns (R170 to R173) -/

theorem signedEdge_setMod (r : Rate) (m : ModulationStatus) (s : State) : signedEdge r (setMod r m s) =
    fsub (fdiv m.filterIntegrate (F32.ofNat (paramsOf r s).period4.toNat))
      (fdiv m.detectIntegrate (F32.ofNat (paramsOf r s).period8.toNat)) := by
  rw [signedEdge, modOf_setMod_same, paramsOf_setMod]

/-- Settles O27: the state is `edgeOp`'s, whose returned edge is read from the integrators it has written. -/
theorem edgeUpdatesIntegratorsAndReturnsTheTriple : Obligations.EdgeUpdatesIntegratorsAndReturnsTheTriple := by
  intro s r
  have hsigned := signedEdge_setMod r (updatedIntegrators r s) s
  refine ⟨edgeOp r s, rfl, ?_, modOf_edgeOp_same r s, fun q hq => modOf_edgeOp_other hq s, hsigned, congrArg fabs hsigned, rfl⟩
  exact congrArg (fun e => returning (.edge e (fabs e) (depth r s)) (setMod r (updatedIntegrators r s) s)) hsigned

/-! ## The depth at power 0 (R178 (a)) -/

section
variable {s : State} {r : Rate} (hpower : s.powerAverage = F32.ofBits 0)
include hpower

theorem depth_of_zeroPower {neg : Bool} {m : Fin 0x7F800000} (hm : m.val ≠ 0) (hsample : sampleNow r s = .finite neg m) :
    depth r s = .inf (!neg) := by
  rw [depth, hpower, hsample, fsub_zero_left neg hm, fdiv_zero_right _ hm]

theorem depth_isNaN_of_zeroPower (hsample : sampleNow r s = F32.ofBits 0) : (depth r s).isNaN = true := by
  rw [depth, hpower, hsample]
  decide +kernel

end

/-- Settles O28: the difference from +0 is the sample with the other sign, and divided by +0 an infinity of that sign; minus
infinity and NaN exceed nothing. -/
theorem depthAtZeroPower : Obligations.DepthAtZeroPower := by
  intro s r hpower
  refine ⟨fun m => depth_of_zeroPower hpower, fun m => depth_of_zeroPower hpower, depth_isNaN_of_zeroPower hpower,
    fun m x hsample => ?_⟩
  by_cases hm : m.val = 0
  · obtain rfl : m = ⟨0, by decide⟩ := Fin.ext hm
    exact F32.gt_nan_left x (depth_isNaN_of_zeroPower hpower hsample)
  · rw [depth_of_zeroPower hpower hm hsample]
    exact F32.gt_negInf_left x

/-! ## Poisoned integrators (R178 (b)) -/

theorem edgeIsNaN_of_signedEdge {r : Rate} {t : State} (h : (signedEdge r t).isNaN = true) : Claims.EdgeIsNaN r t := by
  have hrectified : (rectifiedEdge r t).isNaN = true := (fabs_isNaN _).trans h
  exact ⟨h, hrectified, fun x => ⟨F32.gt_nan_left x h, F32.gt_nan_right x h, F32.gt_nan_left x hrectified,
    F32.gt_nan_right x hrectified⟩⟩

theorem edgeIsNaN_of_poisoned {r : Rate} {t : State} (h : Claims.Poisoned (modOf r t)) : Claims.EdgeIsNaN r t := by
  obtain ⟨neg, hfilter, hdetect⟩ := h
  exact edgeIsNaN_of_signedEdge
    (fsub_isNaN_of_poisonedAs (fdiv_ofNat_poisonedAs hfilter _) (fdiv_ofNat_poisonedAs hdetect _))

theorem edgeIsNaN_of_filterIntegrate {r : Rate} {t : State} (h : (modOf r t).filterIntegrate.isNaN = true) :
    Claims.EdgeIsNaN r t :=
  edgeIsNaN_of_signedEdge (fsub_nan_left _ (fdiv_nan_left _ h))

theorem edgeIsNaN_of_detectIntegrate {r : Rate} {t : State} (h : (modOf r t).detectIntegrate.isNaN = true) :
    Claims.EdgeIsNaN r t :=
  edgeIsNaN_of_signedEdge (fsub_nan_right _ (fdiv_nan_left _ h))

/-- The sample stands first in both increments, and each integrator first in its own sum. -/
theorem poisoned_updatedIntegrators {r : Rate} {s : State}
    (h : (sampleNow r s).isFinite = false ∨ Claims.Poisoned (modOf r s)) : Claims.Poisoned (updatedIntegrators r s) := by
  rcases h with hsample | ⟨neg, hfilter, hdetect⟩
  · obtain ⟨neg, hnow⟩ := F32.exists_poisonedAs hsample
    exact ⟨neg, fadd_poisonedAs_right _ (fsub_poisonedAs_left hnow _), fadd_poisonedAs_right _ (fsub_poisonedAs_left hnow _)⟩
  · exact ⟨neg, fadd_poisonedAs_left hfilter _, fadd_poisonedAs_left hdetect _⟩

theorem poisoned_edgeOp (r : Rate) {q : Rate} {s : State} (h : Claims.Poisoned (modOf q s)) :
    Claims.Poisoned (modOf q (edgeOp r s)) := by
  by_cases hq : q = r
  · subst hq
    exact modOf_edgeOp_same q s ▸ poisoned_updatedIntegrators (.inr h)
  · rwa [modOf_edgeOp_other hq]

theorem SameIntegrators.poisoned {m m' : ModulationStatus} (h : SameIntegrators m m') (hm : Claims.Poisoned m) :
    Claims.Poisoned m' := by
  obtain ⟨hfilter, hdetect, -⟩ := h
  rwa [Claims.Poisoned, hfilter, hdetect]

theorem Sampled.poisoned {a b : U32} {s t : State} (h : Sampled a b s t) {q : Rate} (hs : Claims.Poisoned (modOf q s)) :
    Claims.Poisoned (modOf q t) := by
  rcases h.keeps with hk | hk
  · exact (hk.integrators q).poisoned hs
  · exact (hk.integrators q).poisoned (poisoned_edgeOp (stepRate s) (s := sampled a b s) hs)

theorem exec_poisoned {i : Instr} {s t : State} {q : Rate} (h : exec i s = .next t) (hrst : i ≠ .rst)
    (hcfg : ∀ rate, i ≠ .cfg rate) (hs : Claims.Poisoned (modOf q s)) : Claims.Poisoned (modOf q t) := by
  cases exec_cases h with
  | resets => exact absurd rfl hrst
  | configures => exact absurd rfl (hcfg _)
  | samples ht => exact ht.poisoned hs
  | edges r => exact poisoned_edgeOp r hs
  | core ht => exact (ht.keeps.integrators q).poisoned hs
  | _ => exact hs

/-- Settles O29: `EDGE` hands poison on from the sample to the integrators and from them to the edge, and of the other operations
only `CFG` and `RST` write an integrator. -/
theorem nanPoisonsTheIntegrators : Obligations.NanPoisonsTheIntegrators := by
  refine ⟨fun s r => ⟨edgeOp r s, rfl, ?_⟩, fun i s t q => exec_poisoned⟩
  have hmod := modOf_edgeOp_same r s
  refine ⟨fun h => ?_, fun h => ?_, fun h => ?_, fun h => ?_⟩
  · have hpoisoned : Claims.Poisoned (modOf r (edgeOp r s)) := hmod ▸ poisoned_updatedIntegrators h
    exact ⟨hpoisoned, edgeIsNaN_of_poisoned hpoisoned⟩
  · rw [hmod]
    exact ⟨fadd_nan_right _ (fsub_nan_left _ h), fadd_nan_right _ (fsub_nan_left _ h)⟩
  · have hfilter : (modOf r (edgeOp r s)).filterIntegrate.isNaN = true := hmod ▸ fadd_nan_left _ h
    exact ⟨hfilter, edgeIsNaN_of_filterIntegrate hfilter⟩
  · have hdetect : (modOf r (edgeOp r s)).detectIntegrate.isNaN = true := hmod ▸ fadd_nan_left _ h
    exact ⟨hdetect, edgeIsNaN_of_detectIntegrate hdetect⟩

end Sys2Proof.Machine

/-! The search for a SOF (42_sof_state_machine). In each stage the registers that the peak test leaves decide the deadline test (R194),
so each stage has one equation for every outcome of the deadline test. -/

namespace Sys2Proof.Machine

/-! ## Hold, abort and confirmation (R186, R188, R195) -/

/-- Settles O30: the returned value is all that `SOFHOLD` writes. -/
theorem sofholdHoldsTheSearch : Obligations.SofholdHoldsTheSearch := fun _ => rfl

theorem sofAbort_eq_afterAbort (s : State) : sofAbort s = Claims.afterAbort s := rfl

/-- Settles O31: the three operations are one abort, after which two of them return. -/
theorem abortsClearTheSearch : Obligations.AbortsClearTheSearch := fun s => by
  have habort := sofAbort_eq_afterAbort s
  have hreturn := congrArg noDetection habort
  exact ⟨congrArg Host.Outcome.next habort, congrArg Host.Outcome.next hreturn, congrArg Host.Outcome.next hreturn⟩

/-- Settles O35: the writes of `sofConfirm` are the statement's, register by register. -/
theorem sofconfStartsAFrame : Obligations.SofconfStartsAFrame := fun _ => rfl

/-- The abort clears whatever a peak test writes. -/
theorem sofAbort_setMod_peak (s : State) (e : F32) (peak deadline : Time) :
    sofAbort (setMod searchRate
      { s.mods.k106 with detectorPeek := e, searchPeakTime := peak, searchEndTime := deadline } s) = sofAbort s := rfl

theorem sofAbort_setMod_idlePeak (s : State) : sofAbort (setMod searchRate (idlePeak s) s) = sofAbort s := by
  obtain ⟨e, peak, deadline, hpeak⟩ := idlePeak_shape s
  rw [hpeak, sofAbort_setMod_peak]

theorem sofAbort_setMod_endPeak (s : State) : sofAbort (setMod searchRate (endPeak s) s) = sofAbort s := by
  obtain ⟨e, peak, deadline, hpeak⟩ := endPeak_shape s
  rw [hpeak, sofAbort_setMod_peak]

/-! ## The three outcomes of a deadline test (D13) -/

section
variable {α : Type} {m : ModulationStatus} {t : Time} {found missed waiting : α}

theorem deadline_before (h : t ≠ m.searchEndTime) :
    (if m.atDeadline t then if m.peakSeen then found else missed else waiting) = waiting :=
  if_neg (by simpa [ModulationStatus.atDeadline] using h)

theorem deadline_found (h : t = m.searchEndTime) (hpeak : m.searchPeakTime ≠ 0) :
    (if m.atDeadline t then if m.peakSeen then found else missed else waiting) = found := by
  rw [if_pos (by simpa [ModulationStatus.atDeadline] using h), if_pos (by simpa [ModulationStatus.peakSeen] using hpeak)]

theorem deadline_missed (h : t = m.searchEndTime) (hpeak : m.searchPeakTime = 0) :
    (if m.atDeadline t then if m.peakSeen then found else missed else waiting) = missed := by
  rw [if_pos (by simpa [ModulationStatus.atDeadline] using h), if_neg (by simpa [ModulationStatus.peakSeen] using hpeak)]

end

/-! ## The stages -/

section
variable {s : State}

/-! ### BEGIN (R189) -/

theorem execSofb_eq (s : State) : execSofb s = .next (Claims.withSearch s (beginDeadline s (beginPeak s)) false) := rfl

theorem execSofb_before (h : s.signalClock ≠ (beginPeak s).searchEndTime) :
    execSofb s = .next (Claims.withSearch s (beginPeak s) false) := by
  rw [execSofb_eq, beginDeadline, deadline_before h]

theorem execSofb_found (h : s.signalClock = (beginPeak s).searchEndTime) (hpeak : (beginPeak s).searchPeakTime ≠ 0) :
    execSofb s = .next (Claims.withSearch s
      (({ beginPeak s with symbolStartTime := (beginPeak s).searchPeakTime - toTime s.params.k106.period8 }).openWindow
        .idleStage 10 11 s.params.k106) false) := by
  rw [execSofb_eq, beginDeadline, deadline_found h hpeak]
  rfl

theorem execSofb_missed (h : s.signalClock = (beginPeak s).searchEndTime) (hpeak : (beginPeak s).searchPeakTime = 0) :
    execSofb s = .next (Claims.withSearch s { beginPeak s with searchStartTime := 0, searchEndTime := 0 } false) := by
  rw [execSofb_eq, beginDeadline, deadline_missed h hpeak]

/-! ### IDLE (R191) -/

theorem execSofi_illegal (h : idleIllegal s = true) : execSofi s = .next (noDetection (sofAbort s)) := by
  rw [execSofi, sofIdle, if_pos h]

theorem execSofi_legal (h : idleIllegal s = false) : execSofi s = .next (noDetection (idleDeadline s (idlePeak s))) := by
  rw [execSofi, sofIdle, if_neg (by simp [h])]

theorem execSofi_before (hlegal : idleIllegal s = false) (h : s.signalClock ≠ (idlePeak s).searchEndTime) :
    execSofi s = .next (Claims.withSearch s (idlePeak s) false) := by
  rw [execSofi_legal hlegal, idleDeadline, deadline_before h]
  rfl

theorem execSofi_found (hlegal : idleIllegal s = false) (h : s.signalClock = (idlePeak s).searchEndTime)
    (hpeak : (idlePeak s).searchPeakTime ≠ 0) :
    execSofi s = .next (Claims.withSearch s ((idlePeak s).openWindow .endStage 2 3 s.params.k106) false) := by
  rw [execSofi_legal hlegal, idleDeadline, deadline_found h hpeak]
  rfl

theorem execSofi_missed (hlegal : idleIllegal s = false) (h : s.signalClock = (idlePeak s).searchEndTime)
    (hpeak : (idlePeak s).searchPeakTime = 0) : execSofi s = .next (noDetection (sofAbort s)) := by
  rw [execSofi_legal hlegal, idleDeadline, deadline_missed h hpeak, sofAbort_setMod_idlePeak]

/-! ### END (R193) -/

theorem execSofe_before (h : s.signalClock ≠ (endPeak s).searchEndTime) :
    execSofe s = .next (Claims.withSearch s (endPeak s) false) := by
  rw [execSofe, sofEnd, deadline_before h]
  rfl

theorem execSofe_found (h : s.signalClock = (endPeak s).searchEndTime) (hpeak : (endPeak s).searchPeakTime ≠ 0) :
    execSofe s = .next (returning (.detection true) (sofConfirm (setMod searchRate (endPeak s) s))) := by
  rw [execSofe, sofEnd, deadline_found h hpeak]

theorem execSofe_missed (h : s.signalClock = (endPeak s).searchEndTime) (hpeak : (endPeak s).searchPeakTime = 0) :
    execSofe s = .next (noDetection (sofAbort s)) := by
  rw [execSofe, sofEnd, deadline_missed h hpeak, sofAbort_setMod_endPeak]

end

/-- Settles O32: the statement's `m1` is `beginPeak s`, and its window is `openWindow`'s. -/
theorem sofbFollowsTheFirstFallingEdge : Obligations.SofbFollowsTheFirstFallingEdge := fun _ =>
  ⟨execSofb_before, execSofb_found, execSofb_missed⟩

/-- Settles O33: the statement's `illegal` and `m1` are `idleIllegal s` and `idlePeak s`. -/
theorem sofiFindsTheRisingEdgeOrAborts : Obligations.SofiFindsTheRisingEdgeOrAborts := fun _ =>
  ⟨execSofi_illegal, execSofi_before, execSofi_found, execSofi_missed⟩

/-- Settles O34: the statement's `m1` is `endPeak s`, on which `SOFCONF` runs at a deadline with a peak. -/
theorem sofeConfirmsOrFallsBack : Obligations.SofeConfirmsOrFallsBack := fun _ =>
  ⟨execSofe_before, fun h hpeak => ⟨_, rfl, execSofe_found h hpeak⟩, execSofe_missed⟩

/-! ## What the search leaves alone (R199) -/

theorem SearchOnly.frame {s t : State} (h : SearchOnly s t) :
    t = { s with mods := t.mods, returned := t.returned } ∧ ∀ q, q ≠ .k106 → modOf q t = modOf q s := by
  obtain ⟨m, x, rfl, -⟩ := h
  refine ⟨rfl, fun q hq => ?_⟩
  cases q with
  | k106 => exact absurd rfl hq
  | k212 | k424 => rfl

/-- Settles O56: each of the six operations writes what `SearchOnly` allows. -/
theorem searchNeverProducesOutput : Obligations.SearchNeverProducesOutput := by
  rintro i s t h (rfl | rfl | rfl | rfl | rfl | rfl) <;> cases h
  · exact (noDetection_searchOnly s).frame
  · exact (abort_searchOnly s).frame
  · exact (sofBegin_searchOnly s).frame
  · exact (sofIdle_searchOnly s).frame
  · exact (abort_searchOnly s).frame
  · exact (sofAbort_searchOnly s).frame

end Sys2Proof.Machine

/-! The symbol tracker (43_symbol_tracker). The test of step 4 reads the registers that steps 2 and 3 leave (`beforeDecision`), so
`TRK` has one equation for each of its two outcomes, and one invariant of those registers gives the length of every symbol. -/

namespace Sys2Proof.Machine

/-! ## Re-sync and prediction (R216, R217) -/

section
variable (r : Rate) (s : State)

/-- R216 with the rule's own conditions: the window excludes both its bounds. -/
theorem resync_eq : resync r s =
    if (modOf r s).searchStartTime < s.signalClock ∧ s.signalClock < (modOf r s).searchEndTime ∧
        F32.gt (rectifiedEdge r s) (modOf r s).detectorPeek = true ∧ modulated r s = true then
      { modOf r s with
        detectorPeek := rectifiedEdge r s
        symbolEndTime := s.signalClock - toTime (paramsOf r s).period8
        symbolSyncTime := 0 }
    else modOf r s := by
  simp only [resync, Bool.and_eq_true, decide_eq_true_eq, and_assoc]

/-- A re-sync always asks for a prediction. -/
theorem resync_eq_or_syncTime_eq_zero : resync r s = modOf r s ∨ (resync r s).symbolSyncTime = 0 := by
  rw [resync_eq]
  split
  · exact .inr rfl
  · exact .inl rfl

end

/-! ## The decision (R218, R219) -/

section
variable {r : Rate} {s : State}

theorem trackRate_waits (h : s.signalClock ≠ (beforeDecision r s).symbolSyncTime) :
    trackRate r s = returning (.symbol none) (setMod r (beforeDecision r s) s) :=
  if_neg (by simpa [decides] using h)

theorem trackRate_decides (h : s.signalClock = (beforeDecision r s).symbolSyncTime) :
    trackRate r s =
      let symbol := decidedSymbol (modulated r s) (paramsOf r s) (beforeDecision r s)
      returning (.symbol (some symbol.pattern))
        { setMod r (armWindow (paramsOf r s) (beforeDecision r s)) s with symbol } :=
  if_pos (by simpa [decides] using h)

theorem modOf_trackRate_waits (h : s.signalClock ≠ (beforeDecision r s).symbolSyncTime) :
    modOf r (trackRate r s) = beforeDecision r s := by
  rw [trackRate_waits h]
  exact modOf_setMod_same ..

theorem modOf_trackRate_decides (h : s.signalClock = (beforeDecision r s).symbolSyncTime) :
    modOf r (trackRate r s) = armWindow (paramsOf r s) (beforeDecision r s) := by
  rw [trackRate_decides h]
  exact modOf_setMod_same ..

theorem modOf_trackRate_ne {q : Rate} (h : q ≠ r) : modOf q (trackRate r s) = modOf q s := by
  by_cases hclock : s.signalClock = (beforeDecision r s).symbolSyncTime
  · rw [trackRate_decides hclock]
    exact modOf_setMod_ne _ s h
  · rw [trackRate_waits hclock]
    exact modOf_setMod_ne _ s h

/-- The delay moves both ends of a symbol alike. -/
theorem decidedSymbol_length (low : Bool) (p : BitrateParams) (m : ModulationStatus) :
    (decidedSymbol low p m).length = m.symbolEndTime - m.symbolStartTime :=
  sub_sub_sub_cancel_right ..

end

/-- Settles O36: the statement's `m1` and `m2` are `resync` and `beforeDecision`, and each outcome of the clock test is one equation of
`trackRate`. -/
theorem trkResyncsPredictsAndDecides : Obligations.TrkResyncsPredictsAndDecides := by
  intro s r m p t a low dly m1 m2
  have hm2 : beforeDecision r s = m2 := congrArg (predict p) (resync_eq r s)
  rw [← hm2]
  refine ⟨fun hwait => ⟨track s, rfl, ?_, modOf_trackRate_waits hwait, fun q => modOf_trackRate_ne⟩,
    fun hdecide => ⟨track s, rfl, ?_, ?_, modOf_trackRate_decides hdecide, fun q => modOf_trackRate_ne⟩⟩
  · rw [track, trackRate_waits hwait]; rfl
  · rw [track, trackRate_decides hdecide]; rfl
  · rw [track, trackRate_decides hdecide]; rfl

/-! ## One period per symbol (R222) -/

/-- The symbol under way is one period long, modulo `2^64`. -/
def OnePeriodLong (p : BitrateParams) (m : ModulationStatus) : Prop :=
  m.symbolEndTime - m.symbolStartTime = toTime p.period1

theorem onePeriodLong_predict {p : BitrateParams} {m : ModulationStatus} (h : m.symbolSyncTime = 0 ∨ OnePeriodLong p m) :
    OnePeriodLong p (predict p m) := by
  unfold predict
  split
  · exact add_sub_cancel_left m.symbolEndTime (toTime p.period1)
  · exact h.resolve_left ‹_›

/-- The registers of a rate stay, or their symbol is predicted afresh. -/
theorem onePeriodLong_beforeDecision {r : Rate} {s : State}
    (h : (modOf r s).symbolSyncTime = 0 ∨ OnePeriodLong (paramsOf r s) (modOf r s)) :
    OnePeriodLong (paramsOf r s) (beforeDecision r s) := by
  refine onePeriodLong_predict ?_
  obtain hsame | hdue := resync_eq_or_syncTime_eq_zero r s
  · rwa [hsame]
  · exact .inl hdue

theorem onePeriodLong_trackRate {r : Rate} {s : State} (h : OnePeriodLong (paramsOf r s) (beforeDecision r s)) :
    OnePeriodLong (paramsOf r s) (modOf r (trackRate r s)) := by
  by_cases hclock : s.signalClock = (beforeDecision r s).symbolSyncTime
  · rw [modOf_trackRate_decides hclock]
    exact h
  · rw [modOf_trackRate_waits hclock]
    exact h

/-- A symbol is returned at its sync time only, with the length of the times before the decision. -/
theorem trackRate_symbol_length {r : Rate} {s : State} (h : (trackRate r s).returned ≠ .symbol none) :
    (trackRate r s).symbol.length = (beforeDecision r s).symbolEndTime - (beforeDecision r s).symbolStartTime := by
  by_cases hclock : s.signalClock = (beforeDecision r s).symbolSyncTime
  · rw [trackRate_decides hclock]
    exact decidedSymbol_length ..
  · exact absurd (congrArg State.returned (trackRate_waits hclock)) h

/-- Settles O37: the symbol under way is one period long before the decision, which leaves its times and takes the length from them. -/
theorem trackedSymbolsAreOnePeriodLong : Obligations.TrackedSymbolsAreOnePeriodLong := by
  rintro s _ ⟨⟩ r p1 h
  have hlong := onePeriodLong_beforeDecision h
  exact ⟨onePeriodLong_trackRate hlong, fun hsymbol => (trackRate_symbol_length hsymbol).trans hlong⟩

end Sys2Proof.Machine

/-! The framer (44_bit_byte_framer). A symbol comes at the start position, a data position or the stop position, and is L or H;
there the row that it selects depends on one more bit at most, so five equations are the whole decision, and the terminator
conditions are read off them. -/

namespace Sys2Proof.Machine

/-! ## The decision by key (30_encoding R116) -/

theorem decodeSym_start_low :
    ∀ e f : Bool, decodeSym (packKey false true false e f) = if f then .ftruncStart else .fstart := by decide

theorem decodeSym_start_high : ∀ e f : Bool, decodeSym (packKey true true false e f) = .fserrStart := by decide

theorem decodeSym_data :
    ∀ p e f : Bool, decodeSym (packKey p false false e f) = if f then .ftruncData else .fdata := by decide

theorem decodeSym_stop_low :
    ∀ e f : Bool, decodeSym (packKey false false true e f) = if e then .feof else .fserrStop := by decide

theorem decodeSym_stop_high :
    ∀ e f : Bool, decodeSym (packKey true false true e f) = if f then .ftruncStop else .fpush := by decide

/-! ## The decision by state (R248) -/

section
variable {s : State}

theorem decodeSym_symKey_start_low (hbits : s.stream.bits = 0) (hlow : s.symbol.pattern = .patternL) :
    decodeSym (symKey s) = if bufferFull s then .ftruncStart else .fstart := by
  rw [symKey, hbits, hlow]
  exact decodeSym_start_low _ _

theorem decodeSym_symKey_start_high (hbits : s.stream.bits = 0) (hhigh : s.symbol.pattern = .patternH) :
    decodeSym (symKey s) = .fserrStart := by
  rw [symKey, hbits, hhigh]
  exact decodeSym_start_high _ _

theorem decodeSym_symKey_data (hstart : s.stream.bits ≠ 0) (hstop : s.stream.bits ≠ 9) :
    decodeSym (symKey s) = if bufferFull s then .ftruncData else .fdata := by
  rw [symKey, beq_false_of_ne hstart, beq_false_of_ne hstop]
  exact decodeSym_data _ _ _

theorem decodeSym_symKey_stop_low (hbits : s.stream.bits = 9) (hlow : s.symbol.pattern = .patternL) :
    decodeSym (symKey s) = if s.stream.data == 0 then .feof else .fserrStop := by
  rw [symKey, hbits, hlow]
  exact decodeSym_stop_low _ _

theorem decodeSym_symKey_stop_high (hbits : s.stream.bits = 9) (hhigh : s.symbol.pattern = .patternH) :
    decodeSym (symKey s) = if bufferFull s then .ftruncStop else .fpush := by
  rw [symKey, hbits, hhigh]
  exact decodeSym_stop_high _ _

end

/-- Settles O38: each line is one of the five equations. -/
theorem framerDecisionTable : Obligations.FramerDecisionTable := by
  intro s _ b full l h op
  refine ⟨fun hbits hdata hl => ?_, decodeSym_symKey_start_high, fun hbits hdata hl => ?_, decodeSym_symKey_start_low,
    decodeSym_symKey_data, decodeSym_symKey_stop_high⟩
  · exact (decodeSym_symKey_stop_low hbits hl).trans (if_pos (beq_iff_eq.2 hdata))
  · exact (decodeSym_symKey_stop_low hbits hl).trans (if_neg (mt beq_iff_eq.1 hdata))

/-! ## The terminator conditions (R236) -/

/-- Settles O39: at each of the five places of a symbol the conditions are those of the row that the place's equation selects. -/
theorem terminatorConditionsSelectTheirRows : Obligations.TerminatorConditionsSelectTheirRows := by
  intro s hsymbol
  unfold truncateErrorCond streamErrorCond frameEndCond
  by_cases hstart : s.stream.bits = 0
  · obtain hl | hh := hsymbol
    · rw [decodeSym_symKey_start_low hstart hl, hstart, hl]
      cases bufferFull s <;> simp
    · rw [decodeSym_symKey_start_high hstart hh, hstart, hh]
      simp
  by_cases hstop : s.stream.bits = 9
  · obtain hl | hh := hsymbol
    · rw [decodeSym_symKey_stop_low hstop hl, hstop, hl]
      cases s.stream.data == 0 <;> simp
    · rw [decodeSym_symKey_stop_high hstop hh, hstop, hh]
      cases bufferFull s <;> simp
  · rw [decodeSym_symKey_data hstart hstop, beq_false_of_ne hstart, beq_false_of_ne hstop]
    cases bufferFull s <;> simp

/-! ## A symbol that continues the frame (R240 to R242) -/

theorem shiftedData_of_ne_zero {s : State} (h : s.stream.bits ≠ 0) :
    shiftedData s = s.stream.data ||| (s.symbol.value.setWidth 8 <<< (s.stream.bits.toNat - 1)) := if_neg h

/-- Settles O40: at positions 1 to 8 the guard on position 0 is open. -/
theorem fstartAndFdataAdvanceThePosition : Obligations.FstartAndFdataAdvanceThePosition := by
  refine fun s => ⟨rfl, fun hpos _ => ?_⟩
  have hne : s.stream.bits ≠ 0 := fun h => by simp [h] at hpos
  rw [← shiftedData_of_ne_zero hne]
  rfl

/-- Settles O41: `FPUSH` leaves `pushed`, whose buffer is one write to a canonical memory. -/
theorem fpushStoresTheByte : Obligations.FpushStoresTheByte := fun s hwf hbytes =>
  ⟨pushed s, pushByte_of_lt hbytes, rfl, Memory.wf_write _ _ hwf, fun cell => Memory.read_write hwf _ cell _⟩

/-! ## A symbol that ends it (R237 to R245) -/

theorem resetModulation_eq_afterRstm (s : State) : resetModulation s = Claims.afterRstm s := rfl

theorem terminate_of_bytes_eq_zero (trunc : Bool) {s : State} (h : s.stream.bytes = 0) :
    terminate trunc s = .next (resetModulation s) := if_pos h

theorem terminate_of_bytes_ne_zero (trunc : Bool) {s : State} (h : s.stream.bytes ≠ 0) :
    terminate trunc s = andThen (finalise trunc s) fun t => .next (resetModulation t) := if_neg h

/-- Settles O44: `FTERM` branches on `bytes = 0`, and up to 256 bytes `FIN` goes on. -/
theorem ftermPublishesOnlyNonEmptyFrames : Obligations.FtermPublishesOnlyNonEmptyFrames := by
  refine fun s trunc => ⟨fun hzero => ?_, fun hne hbytes => ⟨finalised trunc s, finalise_of_le hbytes, ?_⟩⟩
  · refine (terminate_of_bytes_eq_zero trunc hzero).trans ?_
    rw [resetModulation_eq_afterRstm]
  · refine (terminate_of_bytes_ne_zero trunc hne).trans ?_
    rw [finalise_of_le hbytes, andThen_next, resetModulation_eq_afterRstm]

theorem searches_terminated (trunc : Bool) (s : State) : Claims.Searches (terminated trunc s) := by
  obtain ⟨hvalid, -, hbits, hbytes, hstage⟩ := terminated_searches trunc s
  exact ⟨hvalid, hbits, hbytes, hstage⟩

/-- Settles O43: every terminator is `terminate` with its `trunc`. -/
theorem terminatorsRunFterm : Obligations.TerminatorsRunFterm := by
  intro s hbytes
  have hfeof : terminate false s = .next (terminated false s) := terminate_of_le hbytes
  have hother : terminate true s = .next (terminated true s) := terminate_of_le hbytes
  exact ⟨_, _, hfeof, hfeof, hother, hother, hother, hother, hother, hother,
    searches_terminated false s, searches_terminated true s⟩

/-- `CLS` sets the phase and reads it nowhere (45_protocol_classifier R263, R264). -/
theorem classify_phase (f : FrameRecord) (phase : Phase) (s : State) :
    classify { f with phase := phase } s = classify f s := rfl

/-- Settles O45: the statement's record is `builtRecord` but for its phase. -/
theorem finBuildsClassifiesAndPublishes : Obligations.FinBuildsClassifiesAndPublishes := fun s trunc phase hbytes =>
  ⟨_, congrArg Host.Outcome.next (classify_phase (builtRecord trunc s) phase _), finalise_of_le hbytes⟩

end Sys2Proof.Machine

/-! The protocol classifier (45_protocol_classifier). `CLS` treats a record by its class and by its type: step 2 has one equation for
each class, and `CLS` one for each type, around step 2. -/

namespace Sys2Proof.Machine

/-- Settles O25: the spec's counts are those of `samplesIn`, which grow with the carrier cycles. -/
theorem toSamplesIsMonotone : Obligations.ToSamplesIsMonotone := fun rate c c' hcycles hlargest => by
  rw [samples_eq, samples_eq]
  exact samplesIn_mono rate hcycles hlargest

section
variable {f : FrameRecord}

/-! ## Step 2: the class of a record (R263 to R265) -/

theorem applyClass_of_reqb (h : isReqb f = true) (s : State) : applyClass f s = { s with
    protocol := protocolDefaults s.sampleTimeUnit
    frame := { s.frame with
      frameGuardTime := toSamples s.sampleTimeUnit 896
      frameWaitingTime := toSamples s.sampleTimeUnit 2304
      lastCommand := 0x05 }
    chainedFlags := 0 } := if_pos h

theorem applyClass_of_not_reqb (h : ¬ isReqb f = true) (s : State) : applyClass f s = s := if_neg h

/-- Of the frame registers a class sets the two working budgets and `lastCommand` at most. -/
theorem applyClass_shape (f : FrameRecord) (s : State) : ∃ ps guard waiting command c, applyClass f s = { s with
    protocol := ps
    frame := { s.frame with frameGuardTime := guard, frameWaitingTime := waiting, lastCommand := command }
    chainedFlags := c } := by
  by_cases h : isReqb f = true
  · exact ⟨_, _, _, _, _, applyClass_of_reqb h s⟩
  · exact ⟨_, _, _, _, _, applyClass_of_not_reqb h s⟩

theorem classifiedRecord_of_reqb (h : isReqb f = true) : classifiedRecord f 0 = { f with
    phase := .selectionFrame
    flags := if crcCheck f.payload then f.flags else f.flags ||| 0x20 } := by
  simp [classifiedRecord, h, flagCrcError]

theorem classifiedRecord_of_not_reqb (h : ¬ isReqb f = true) (chained : Byte) : classifiedRecord f chained = { f with
    phase := .applicationFrame
    flags := (if crcCheck f.payload then f.flags else f.flags ||| 0x20) ||| chained } := by
  simp [classifiedRecord, h, flagCrcError]

/-! ## `CLS` by the type of the record (R261, R266 to R268) -/

/-- A poll frame reloads the waiting budget before its class is applied, and opens the listen window after it. -/
theorem classify_of_poll (h : f.frameType = .pollFrame) (s : State) : classify f s =
    let t := applyClass f { s with frame := { s.frame with frameWaitingTime := s.protocol.frameWaitingTime } }
    let dly := toTime (paramsOf t.activeRate t).symbolDelayDetect
    { t with
      frame := { t.frame with
        guardEnd := t.frame.frameEnd + toTime t.frame.frameGuardTime + dly
        waitingEnd := t.frame.frameEnd + toTime t.frame.frameWaitingTime + dly
        frameType := .listenFrame
        lastFrameEnd := t.frame.frameEnd
        frameStart := 0
        frameEnd := 0 }
      frameOut := classifiedRecord f t.chainedFlags } := by
  simp only [classify, reloadWaiting, openListenWindow, closeListenFrame, h, reduceCtorEq, if_true, if_false]
  rfl

theorem classify_of_listen (h : f.frameType = .listenFrame) (s : State) : classify f s =
    let t := applyClass f s
    { t with
      frame := { t.frame with
        frameType := .noFrame
        lastCommand := 0
        lastFrameEnd := t.frame.frameEnd
        frameStart := 0
        frameEnd := 0 }
      frameOut := classifiedRecord f t.chainedFlags } := by
  simp only [classify, reloadWaiting, openListenWindow, closeListenFrame, h, reduceCtorEq, if_true, if_false]
  rfl

theorem classify_of_none (h : f.frameType = .noFrame) (s : State) : classify f s =
    let t := applyClass f s
    { t with
      frame := { t.frame with lastFrameEnd := t.frame.frameEnd, frameStart := 0, frameEnd := 0 }
      frameOut := classifiedRecord f t.chainedFlags } := by
  simp only [classify, reloadWaiting, openListenWindow, closeListenFrame, h, reduceCtorEq, if_false]
  rfl

end

/-- Settles O46: the poll frame's equation at the REQB class, which overwrites the reloaded budget. -/
theorem clsRecognisesReqb : Obligations.ClsRecognisesReqb := by
  intro s f hpoll hlength hfirst
  have hreqb : isReqb f = true := (isReqb_iff f).2 ⟨hfirst, hlength⟩
  refine congrArg Host.Outcome.next ((classify_of_poll hpoll s).trans ?_)
  rw [applyClass_of_reqb hreqb, ← classifiedRecord_of_reqb hreqb]
  rfl

/-- Settles O47: the poll frame's equation where the class changes nothing. -/
theorem clsTreatsOtherFramesAsApplication : Obligations.ClsTreatsOtherFramesAsApplication := by
  intro s f hpoll hother
  have hclass : ¬ isReqb f = true := fun hreqb => hother ((isReqb_iff f).1 hreqb).symm
  refine congrArg Host.Outcome.next ((classify_of_poll hpoll s).trans ?_)
  rw [applyClass_of_not_reqb hclass, ← classifiedRecord_of_not_reqb hclass]
  rfl

/-- Settles O48: the equations of the two other types, over the registers that a class can set. -/
theorem clsOpensAWindowOnlyAfterPollFrames : Obligations.ClsOpensAWindowOnlyAfterPollFrames := by
  intro s f htype
  refine ⟨classify f s, rfl, ?_⟩
  obtain ⟨ps, guard, waiting, command, c, hclass⟩ := applyClass_shape f s
  cases hf : f.frameType with
  | pollFrame => exact absurd hf htype
  | listenFrame =>
    rw [classify_of_listen hf, hclass]
    exact ⟨rfl, rfl, rfl, rfl, rfl, rfl, fun _ => ⟨rfl, rfl⟩, nofun⟩
  | noFrame =>
    rw [classify_of_none hf, hclass]
    exact ⟨rfl, rfl, rfl, rfl, rfl, rfl, nofun, fun _ => rfl⟩

end Sys2Proof.Machine

/-! The CRC (46_crc16). A trailer is its high byte over its low byte, so the check compares the CRC of the body with one word. The
bit-serial CRC is linear over XOR: its eight steps shift the high half of the register down, and make of the low half alone what
the recurrence makes of that byte. -/

namespace Sys2Proof.Machine

/-! ## The check on a body and its trailer (R283, R284) -/

theorem setWidth_or_shiftLeft_eq_append (lo hi : Byte) : lo.setWidth 16 ||| (hi.setWidth 16 <<< 8) = hi ++ lo := by
  refine Eq.trans ?_ (BitVec.append_def hi lo).symm
  simp [BitVec.shiftLeftZeroExtend_eq, BitVec.or_comm]

theorem append_halves (x : U16) : (x >>> 8).setWidth 8 ++ x.setWidth 8 = x := by
  have hhigh : (x >>> 8).setWidth 8 = x.extractLsb' 8 8 := BitVec.setWidth_ushiftRight_eq_extractLsb
  have hlow : x.setWidth 8 = x.extractLsb' 0 8 := BitVec.setWidth_eq_extractLsb' (by decide)
  rw [hhigh, hlow]
  exact (BitVec.extractLsb'_append_extractLsb'_eq_extractLsb' rfl).trans BitVec.extractLsb'_eq_self

theorem trailer_append (body : List Byte) (lo hi : Byte) : trailer (body ++ [lo, hi]) = hi ++ lo := by
  rw [← setWidth_or_shiftLeft_eq_append]
  simp [trailer]

theorem crcCheck_of_length_le {frame : List Byte} (h : frame.length ≤ 2) : crcCheck frame = false := if_pos h

theorem crcCheck_append {body : List Byte} (h : body ≠ []) (lo hi : Byte) :
    crcCheck (body ++ [lo, hi]) = decide (crc16 body = hi ++ lo) := by
  have hlength : ¬ (body ++ [lo, hi]).length ≤ 2 := by simpa using h
  refine (if_neg hlength).trans ?_
  rw [trailer_append]
  simp [beq_eq_decide]

theorem exec_crc (f : FrameRecord) (s : State) :
    exec (.crc f) s = .next { s with returned := .crc (crcCheck f.payload) } := rfl

/-- Settles O49: the statement's recurrence is the model's, which widens `d` before it shifts it. -/
theorem crcComparesTheTrailer : Obligations.CrcComparesTheTrailer := by
  intro s f body lo hi byteStep computed
  have hstep : byteStep = crcByte := by
    funext crc b
    simp [byteStep, crcByte, BitVec.setWidth_ushiftRight, BitVec.setWidth_eq_extractLsb']
  have hcomputed : computed = crc16 body := congrArg (fun step => ~~~ body.foldl step (0xFFFF : U16)) hstep
  refine ⟨fun hshort => ?_, fun hbody hpayload => ?_⟩
  · rw [exec_crc, crcCheck_of_length_le hshort]
  · rw [exec_crc, hpayload, crcCheck_append hbody, hcomputed]

/-- Settles O50: the two bytes are the halves of the CRC; the empty body fails by the length rule. -/
theorem crcAcceptsItsOwnTrailer : Obligations.CrcAcceptsItsOwnTrailer := by
  intro body
  by_cases hbody : body = []
  · subst hbody
    simp [crcCheck_of_length_le]
  · rw [crcCheck_append hbody, append_halves]
    simp [hbody]

/-! ## The bit-serial CRC (R285) -/

/-- The polynomial, XORed in when a 1 falls out. -/
def feedback (out : Bool) : U16 := if out then 0x8408 else 0

theorem feedback_xor : ∀ a b : Bool, feedback (a ^^ b) = feedback a ^^^ feedback b := by decide

/-- One step of the bit-serial CRC, least significant bit first. -/
def serialStep (x : U16) : U16 := if x.getLsbD 0 then (x >>> 1) ^^^ 0x8408 else x >>> 1

theorem serialStep_eq (x : U16) : serialStep x = (x >>> 1) ^^^ feedback (x.getLsbD 0) := by
  unfold serialStep feedback
  split
  · rfl
  · exact BitVec.xor_zero.symm

theorem serialStep_of_even {x : U16} (h : x.getLsbD 0 = false) : serialStep x = x >>> 1 := if_neg (ne_true_of_eq_false h)

theorem serialStep_xor (x y : U16) : serialStep (x ^^^ y) = serialStep x ^^^ serialStep y := by
  simp only [serialStep_eq, BitVec.getLsbD_xor, feedback_xor, BitVec.ushiftRight_xor_distrib]
  ac_rfl

theorem iterate_serialStep_xor (n : Nat) (x y : U16) :
    serialStep^[n] (x ^^^ y) = serialStep^[n] x ^^^ serialStep^[n] y := by
  induction n with
  | zero => rfl
  | succ n ih => simp only [Function.iterate_succ_apply', ih, serialStep_xor]

/-- As long as zeros fall out, the steps are shifts. -/
theorem iterate_serialStep_of_low_bits_zero {n : Nat} {x : U16} (h : ∀ i < n, x.getLsbD i = false) :
    serialStep^[n] x = x >>> n := by
  induction n with
  | zero => exact (BitVec.ushiftRight_zero x).symm
  | succ n ih =>
    have heven : (x >>> n).getLsbD 0 = false := (BitVec.getLsbD_ushiftRight x n 0).trans (h n n.lt_succ_self)
    rw [Function.iterate_succ_apply', ih fun i hi => h i (by omega), serialStep_of_even heven, BitVec.shiftRight_add]

theorem iterate_serialStep_high_half (crc : U16) : serialStep^[8] (crc >>> 8 <<< 8) = crc >>> 8 := by
  have hlow : ∀ i < 8, (crc >>> 8 <<< 8).getLsbD i = false := by simp +contextual
  rw [iterate_serialStep_of_low_bits_zero hlow]
  ext i
  simpa using crc.lt_of_getLsbD

/-- On a byte alone the eight steps are the recurrence: 256 evaluations. -/
theorem iterate_serialStep_byte : ∀ d : Byte, serialStep^[8] (d.setWidth 16) = crcByte 0 d := by decide

theorem crcByte_eq_shift_xor (crc : U16) (b : Byte) :
    crcByte crc b = (crc >>> 8) ^^^ crcByte 0 (b ^^^ crc.setWidth 8) := by
  simp [crcByte, BitVec.xor_assoc]

theorem xor_byte_eq_halves (crc : U16) (b : Byte) :
    crc ^^^ b.setWidth 16 = (crc >>> 8 <<< 8) ^^^ (b ^^^ crc.setWidth 8).setWidth 16 := by
  ext i hi
  by_cases h : i < 8
  · simp [h, hi, Bool.xor_comm]
  · simp [h, hi, Nat.add_sub_of_le (not_lt.mp h)]

/-- Settles O51: both forms act on the two halves of the register apart. -/
theorem crcByteIsEightBitSerialSteps : Obligations.CrcByteIsEightBitSerialSteps := by
  intro crc b
  calc crcByte crc b
      = (crc >>> 8) ^^^ crcByte 0 (b ^^^ crc.setWidth 8) := crcByte_eq_shift_xor crc b
    _ = serialStep^[8] (crc >>> 8 <<< 8) ^^^ serialStep^[8] ((b ^^^ crc.setWidth 8).setWidth 16) := by
        rw [iterate_serialStep_high_half, iterate_serialStep_byte]
    _ = serialStep^[8] (crc ^^^ b.setWidth 16) := by rw [xor_byte_eq_halves, iterate_serialStep_xor]
    _ = _ := (List.foldl_const serialStep _ (List.range 8)).symm

end Sys2Proof.Machine

/-! Reset and dispatch, and what stands in the place of exceptions (47_reset_and_dispatch, 60_exceptions). What a key selects inside
an `SMP` is the operation alone, with the framer row after `TRK` if a symbol came. So an `SMP` is the parts that its rule names, one
after another, and each part answers a next state; and each search operation moves the stage along the graph of R293. -/

namespace Sys2Proof.Machine

/-! ## `RSTM`, and an `SMP` without its core part (R291, R295, R311) -/

/-- Settles O16: `RSTM` is the modulation reset. -/
theorem rstmClearsExactlyItsList : Obligations.RstmClearsExactlyItsList := fun s =>
  congrArg Host.Outcome.next (resetModulation_eq_afterRstm s)

theorem running_eq_false {s : State} (h : s.configured = false ∨ s.configError = true) : running s = false := by
  rcases h with h | h <;> simp [running, h]

theorem running_eq_true {s : State} (hconfigured : s.configured = true) (hok : s.configError = false) : running s = true := by
  simp [running, hconfigured, hok]

/-- Settles O10: such a block does not run, and `SMP` takes the early return. -/
theorem unconfiguredSmpOnlyIngests : Obligations.UnconfiguredSmpOnlyIngests := fun s a b hidle =>
  ⟨ingest a b s, rfl, execSmp_idle (running_eq_false hidle)⟩

theorem execCfg_of_configError {s : State} (h : s.configError = true) (rate : U32) : execCfg rate s = .next s := if_pos h

/-- Settles O21: `CFG` and `THR` refuse, and a failed block's `SMP` takes the early return. -/
theorem configErrorIsFatalUntilRst : Obligations.ConfigErrorIsFatalUntilRst := fun _ herror =>
  ⟨execCfg_of_configError herror, execThr_of_configError herror, rfl,
    fun _ _ => ⟨_, execSmp_idle (running_eq_false (.inr herror)), rfl⟩, ⟨_, rfl, rfl⟩⟩

/-! ## The operation of a key (R292) -/

/-- A search operation selected by the key is the operation alone; `TRK` goes on to the framer. -/
theorem runSeq_eq_exec {op : SeqOp} (h : op ≠ .trk) (s : State) : runSeq op s = exec op.toInstr s := by
  cases op with
  | trk => exact absurd rfl h
  | _ => rfl

theorem runSym_eq_exec (op : SymOp) (s : State) : runSym op s = exec op.toInstr s := by cases op <;> rfl

theorem exec_seqOp_answers (op : SeqOp) (s : State) : ∃ t, exec op.toInstr s = .next t := by
  cases op <;> exact ⟨_, rfl⟩

/-- The framer goes on from a symbol up to the last cell of the buffer, if the row it runs leaves a full buffer alone. -/
theorem exec_symOp_answers {op : SymOp} {s : State} (hbytes : s.stream.bytes.toNat ≤ bufferCells)
    (hpush : op = .fpush → s.stream.bytes.toNat < bufferCells) : ∃ t, exec op.toInstr s = .next t := by
  cases op with
  | fstart | fdata => exact ⟨_, rfl⟩
  | fpush => exact ⟨_, pushByte_of_lt (hpush rfl)⟩
  | _ => exact ⟨_, terminate_of_le hbytes⟩

theorem decodeSym_fpush : ∀ p z n e f : Bool, decodeSym (packKey p z n e f) = .fpush → f = false := by decide

/-- The framer key pushes no byte into a full buffer (44_bit_byte_framer R236). -/
theorem exec_symKey_answers {s : State} (hbytes : s.stream.bytes.toNat ≤ 256) (hmax : s.protocol.maxFrameSize = 256) :
    ∃ t, exec (decodeSym (symKey s)).toInstr s = .next t := by
  refine exec_symOp_answers hbytes fun hop => ?_
  exact Nat.lt_of_le_of_ne hbytes (bytes_ne_256_of_not_full hmax (decodeSym_fpush _ _ _ _ _ hop))

/-! ## A searching `SMP` (R291, R292) -/

theorem exec_edge_sampled (a b : U32) (s : State) : exec (.edge (stepRate s)) (sampled a b s) = .next (edged a b s) := rfl

theorem stepRate_of_searching {s : State} (h : s.activeValid = false) : stepRate s = .k106 := by simp [stepRate, h, searchRate]

theorem stepRate_of_tracking {s : State} (h : s.activeValid = true) : stepRate s = s.activeRate := by simp [stepRate, h]

/-- `EDGE` leaves the stage alone. -/
theorem edged_searchStage (a b : U32) (s : State) : (edged a b s).mods.k106.searchStage = s.mods.k106.searchStage := by
  unfold edged edgeOp
  cases stepRate s <;> rfl

/-- The key's stage bits are those of the stage before the `SMP`. -/
theorem seqKey_edged {s : State} (h : s.activeValid = false) (a b : U32) : seqKey .k106 (edged a b s) =
    packKey false (gateOpen (edged a b s)) (overshoot .k106 (edged a b s))
      (s.mods.k106.searchStage.code.getLsbD 1) (s.mods.k106.searchStage.code.getLsbD 0) := by
  rw [← edged_searchStage a b s, ← h]
  rfl

/-- Settles O11: the key of a searching block selects a search operation, which stands alone and answers a next state. -/
theorem searchingSmpRunsTheKeyedOperation : Obligations.SearchingSmpRunsTheKeyedOperation := by
  intro s a b hconfigured hok hsearch hlisten
  have hne : decodeSeq (seqKey .k106 (edged a b s)) ≠ .trk := searching_key (s := edged a b s) hsearch .k106
  obtain ⟨t, ht⟩ := exec_seqOp_answers (decodeSeq (seqKey .k106 (edged a b s))) (edged a b s)
  refine ⟨ingest a b s, edged a b s, t, rfl, ?_, ?_, ?_⟩
  · rw [← stepRate_of_searching hsearch]
    exact exec_edge_sampled a b s
  · rw [seqKey_edged hsearch] at ht
    exact ht
  · refine (execSmp_searching (running_eq_true hconfigured hok) hsearch hlisten).trans ?_
    rw [runSeq_eq_exec hne, ht]
    rfl

/-- Settles O13: the hook takes the place of the key's operation, and the model's returned value is cleared after it. -/
theorem listenHookDoesNothing : Obligations.ListenHookDoesNothing := by
  refine ⟨fun _ => rfl, fun s a b hconfigured hok hsearch hlisten => ⟨ingest a b s, edged a b s, rfl, ?_, ?_⟩⟩
  · rw [← stepRate_of_searching hsearch]
    exact exec_edge_sampled a b s
  · exact execSmp_listen (running_eq_true hconfigured hok) hsearch hlisten

/-! ## A tracking `SMP` (R291, R292, 43_symbol_tracker R220) -/

/-- What `TRK` returns says whether the framer follows. -/
theorem track_returned (s : State) : (track s).returned = .symbol none ↔ producesSymbol s = false := by
  unfold track trackRate producesSymbol
  cases hdecides : decides s.activeRate s <;> simp [returning]

theorem trackAndFrame_of_noSymbol {s : State} (h : producesSymbol s = false) : trackAndFrame s = .next (track s) :=
  if_neg (ne_true_of_eq_false h)

theorem trackAndFrame_of_symbol {s : State} (h : producesSymbol s = true) :
    trackAndFrame s = exec (decodeSym (symKey (track s))).toInstr (track s) :=
  (if_pos h).trans (runSym_eq_exec _ _)

/-- Settles O12: `TRK` keeps the framer's registers, so with a symbol the framer row answers a next state. -/
theorem trackingSmpTracksAndFrames : Obligations.TrackingSmpTracksAndFrames := by
  intro s a b hconfigured hok htrack hbytes hmax
  have hsmp := execSmp_tracking (a := a) (b := b) (running_eq_true hconfigured hok) htrack
  obtain ⟨hstream, -, -, -, hprotocol, -⟩ := tracked_registers a b s
  refine ⟨ingest a b s, edged a b s, track (edged a b s), rfl, ?_, rfl, fun hnone => ?_, fun hsome => ?_⟩
  · rw [← stepRate_of_tracking htrack]
    exact exec_edge_sampled a b s
  · rw [track_returned] at hnone
    rw [trackAndFrame_of_noSymbol hnone] at hsmp
    exact hsmp
  · rw [Ne, track_returned, Bool.not_eq_false] at hsome
    obtain ⟨t, ht⟩ := exec_symKey_answers (s := track (edged a b s)) (hstream ▸ hbytes) (hprotocol ▸ hmax)
    rw [trackAndFrame_of_symbol hsome, ht] at hsmp
    exact ⟨t, ht, hsmp⟩

/-! ## Every command runs to its end (60_exceptions R310) -/

/-- The invariant has what a tracking `SMP` asks of the buffer, and rules the listen hook out. -/
theorem execSmp_answers {s : State} (hs : Inv s) (a b : U32) : ∃ t, execSmp a b s = .next t := by
  obtain ⟨-, -, ⟨-, hbytes, -⟩, hconfig, -, ⟨-, htype⟩, -⟩ := hs
  by_cases hconfigured : s.configured = true
  · obtain ⟨hmax, hok⟩ := hconfig hconfigured
    cases hv : s.activeValid
    · have hlisten : s.frame.frameType ≠ .listenFrame := by simp [htype, hv]
      obtain ⟨-, -, t, -, -, -, h⟩ := searchingSmpRunsTheKeyedOperation s a b hconfigured hok hv hlisten
      exact ⟨_, h⟩
    · obtain ⟨-, -, w, -, -, -, hnone, hsome⟩ := trackingSmpTracksAndFrames s a b hconfigured hok hv hbytes hmax
      by_cases hw : w.returned = .symbol none
      · exact ⟨_, hnone hw⟩
      · obtain ⟨t, -, h⟩ := hsome hw
        exact ⟨_, h⟩
  · exact ⟨_, execSmp_idle (running_eq_false (.inl (eq_false_of_ne_true hconfigured)))⟩

theorem execThr_answers (min max : U32) (s : State) : ∃ t, execThr min max s = .next t := by
  cases herror : s.configError
  · exact ⟨_, execThr_of_noError herror min max⟩
  · exact ⟨_, execThr_of_configError herror min max⟩

theorem execCfg_answers (rate : U32) (s : State) : ∃ t, execCfg rate s = .next t := by
  cases herror : s.configError
  · by_cases hrejected : Claims.RateRejected (windowLength s) rate
    · exact ⟨_, execCfg_rejected herror hrejected⟩
    · exact ⟨_, execCfg_accepted herror hrejected⟩
  · exact ⟨_, execCfg_of_configError herror rate⟩

/-- Of the eight command codes only `SMP` asks anything of the state. -/
theorem exec_decodeCmd_answers {s : State} (hs : Inv s) (w : BitVec 67) : ∃ t, exec (decodeCmd w) s = .next t := by
  unfold decodeCmd
  split
  case h_3 => exact execThr_answers _ _ s
  case h_4 => exact execCfg_answers _ s
  case h_5 => exact execSmp_answers hs _ _
  all_goals exact ⟨_, rfl⟩

/-- Settles O59: a step is one command or none, and the pin and the port are no part of the invariant. -/
theorem noStepStops : Obligations.NoStepStops := by
  intro s hs
  cases hport : s.port with
  | nil => exact ⟨s, step_of_port_nil hport⟩
  | cons c rest =>
    rw [step_of_port_cons hport]
    exact exec_decodeCmd_answers (s := { s with port := rest, powerLevelThreshold := c.pin }) hs c.word

/-! ## The sequencing graph (R293) -/

/-- The edges of the graph: stay, abort from anywhere, and the two steps towards a start of frame. -/
inductive StageMove : SearchStage → SearchStage → Prop
  | stays (stage : SearchStage) : StageMove stage stage
  | aborts (stage : SearchStage) : StageMove stage .beginStage
  | falls : StageMove .beginStage .idleStage
  | rises : StageMove .idleStage .endStage

theorem StageMove.graph {old new : SearchStage} (h : StageMove old new) :
    (old = .beginStage → new = .beginStage ∨ new = .idleStage) ∧
    (old = .idleStage → new = .idleStage ∨ new = .endStage ∨ new = .beginStage) ∧
    (old = .endStage → new = .endStage ∨ new = .beginStage) ∧
    (old = .reservedStage → new = .reservedStage ∨ new = .beginStage) := by
  cases h with
  | stays => exact ⟨.inl, .inl, .inl, .inl⟩
  | aborts => simp
  | falls => simp
  | rises => simp

theorem StageMove.of_eq {old new : SearchStage} (h : new = old) : StageMove old new := h ▸ .stays new

section
variable {s t : State}

theorem beginPeak_searchStage (s : State) : (beginPeak s).searchStage = s.mods.k106.searchStage := by
  obtain ⟨e, peak, deadline, hpeak⟩ := beginPeak_shape s
  rw [hpeak]

theorem idlePeak_searchStage (s : State) : (idlePeak s).searchStage = s.mods.k106.searchStage := by
  obtain ⟨e, peak, deadline, hpeak⟩ := idlePeak_shape s
  rw [hpeak]

theorem endPeak_searchStage (s : State) : (endPeak s).searchStage = s.mods.k106.searchStage := by
  obtain ⟨e, peak, deadline, hpeak⟩ := endPeak_shape s
  rw [hpeak]

/-- At its deadline `SOFB` goes from BEGIN to IDLE if a peak was seen, and searches on if not. -/
theorem execSofb_stage (h : execSofb s = .next t) (hstage : s.mods.k106.searchStage = .beginStage) :
    StageMove s.mods.k106.searchStage t.mods.k106.searchStage := by
  by_cases hclock : s.signalClock = (beginPeak s).searchEndTime
  · by_cases hpeak : (beginPeak s).searchPeakTime = 0
    · rw [execSofb_missed hclock hpeak] at h
      cases h
      exact .of_eq (beginPeak_searchStage s)
    · rw [execSofb_found hclock hpeak] at h
      cases h
      rw [hstage]
      exact .falls
  · rw [execSofb_before hclock] at h
    cases h
    exact .of_eq (beginPeak_searchStage s)

/-- At its deadline `SOFI` goes from IDLE to END if a peak was seen, and aborts if not, as illegal modulation does before it. -/
theorem execSofi_stage (h : execSofi s = .next t) (hstage : s.mods.k106.searchStage = .idleStage) :
    StageMove s.mods.k106.searchStage t.mods.k106.searchStage := by
  cases hlegal : idleIllegal s
  · by_cases hclock : s.signalClock = (idlePeak s).searchEndTime
    · by_cases hpeak : (idlePeak s).searchPeakTime = 0
      · rw [execSofi_missed hlegal hclock hpeak] at h
        cases h
        exact .aborts _
      · rw [execSofi_found hlegal hclock hpeak] at h
        cases h
        rw [hstage]
        exact .rises
    · rw [execSofi_before hlegal hclock] at h
      cases h
      exact .of_eq (idlePeak_searchStage s)
  · rw [execSofi_illegal hlegal] at h
    cases h
    exact .aborts _

/-- At its deadline `SOFE` keeps the stage if it confirms, and aborts if not. -/
theorem execSofe_stage (h : execSofe s = .next t) : StageMove s.mods.k106.searchStage t.mods.k106.searchStage := by
  by_cases hclock : s.signalClock = (endPeak s).searchEndTime
  · by_cases hpeak : (endPeak s).searchPeakTime = 0
    · rw [execSofe_missed hclock hpeak] at h
      cases h
      exact .aborts _
    · rw [execSofe_found hclock hpeak] at h
      cases h
      exact .of_eq (endPeak_searchStage s)
  · rw [execSofe_before hclock] at h
    cases h
    exact .of_eq (endPeak_searchStage s)

end

/-- The operation of a stage, where the power gate is open and the depth does not overshoot (R292). -/
def stageOp : SearchStage → SeqOp
  | .beginStage => .sofb
  | .idleStage => .sofi
  | .endStage => .sofe
  | .reservedStage => .sofx

theorem decodeSeq_stage (stage : SearchStage) (g o : Bool) :
    decodeSeq (packKey false g o (stage.code.getLsbD 1) (stage.code.getLsbD 0)) =
      if g then if o then .sofovr else stageOp stage else .sofhold := by
  cases stage <;> revert g o <;> decide

theorem runSeq_stageOp_stage {s t : State} (h : runSeq (stageOp s.mods.k106.searchStage) s = .next t) :
    StageMove s.mods.k106.searchStage t.mods.k106.searchStage := by
  unfold stageOp at h
  split at h
  · exact execSofb_stage h ‹_›
  · exact execSofi_stage h ‹_›
  · exact execSofe_stage h
  · cases h; exact .aborts _

/-- The operation that a searching block's key selects moves the stage along the graph. -/
theorem runSeq_decodeSeq_stage {s t : State} {g o : Bool} (h : runSeq (decodeSeq (packKey false g o
      (s.mods.k106.searchStage.code.getLsbD 1) (s.mods.k106.searchStage.code.getLsbD 0))) s = .next t) :
    StageMove s.mods.k106.searchStage t.mods.k106.searchStage := by
  rw [decodeSeq_stage] at h
  split at h
  · split at h
    · cases h; exact .aborts _
    · exact runSeq_stageOp_stage h
  · cases h; exact .stays _

/-- So does the whole `SMP`: the stage that `EDGE` leaves is the one before. -/
theorem execSmp_stage {a b : U32} {s t : State} (h : execSmp a b s = .next t) (hsearch : s.activeValid = false) :
    StageMove s.mods.k106.searchStage t.mods.k106.searchStage := by
  cases hrun : running s
  · rw [execSmp_idle hrun] at h
    cases h
    exact .stays _
  · rw [← edged_searchStage a b s]
    by_cases hlisten : s.frame.frameType = .listenFrame
    · rw [execSmp_listen hrun hsearch hlisten] at h
      cases h
      exact .stays _
    · rw [execSmp_searching hrun hsearch hlisten, seqKey_edged hsearch, ← edged_searchStage a b s, andThen_eq_next] at h
      obtain ⟨u, hu, ht⟩ := h
      cases ht
      exact (runSeq_decodeSeq_stage hu :)

/-- Tracking begins only by a confirmation, which stays in END (10_state R41). -/
theorem execSmp_confirms_from_end {a b : U32} {s t : State} (h : execSmp a b s = .next t) (hsearch : s.activeValid = false)
    (ht : t.activeValid = true) : s.mods.k106.searchStage = .endStage ∧ t.mods.k106.searchStage = .endStage := by
  cases execSmp_cases h with
  | idle => cases hsearch.symm.trans ht
  | listen => cases hsearch.symm.trans ht
  | search _ _ _ hu => obtain ⟨m, x, rfl, -⟩ := hu; cases hsearch.symm.trans ht
  | confirm _ _ _ hend hu =>
    obtain ⟨m, fs, x, rfl, -, hstage⟩ := hu
    exact ⟨hend, hstage.trans ((edged_searchStage a b s).trans hend)⟩
  | noSymbol _ hv => cases hsearch.symm.trans hv
  | symbol _ hv => cases hsearch.symm.trans hv

/-- Settles O15: the graph's edges by the old stage, and the one way to begin tracking. -/
theorem searchStagesFollowTheGraph : Obligations.SearchStagesFollowTheGraph := by
  intro s t a b h hsearch old new
  obtain ⟨hbegin, hidle, hend, hreserved⟩ := (execSmp_stage h hsearch).graph
  exact ⟨hbegin, hidle, hend, hreserved, execSmp_confirms_from_end h hsearch⟩

end Sys2Proof.Machine
